-- ==== Sys2Proof/Word.lean ====
section
/-! DEFINITION. The number types of the Nawzen 2616: bytes of a frame, words of table space, epoch numbers,
and the numbered things of 6.5 (slots, sections, profiles, captures). -/

namespace Sys2Proof

/-- One byte of a frame on the line (R193). -/
abbrev Byte := BitVec 8

/-- One 32-bit word of table space (11.3, R193). -/
abbrev Word := BitVec 32

/-- An epoch number: 16 bits, wrapping (6.3). -/
abbrev Epoch := BitVec 16

/-- A slot of the stream table, 0 to 63 (6.5). -/
abbrev SlotNo := Fin 64

/-- A section, 0 to 31 (6.5). -/
abbrev SectionNo := Fin 32

/-- A profile, 0 to 7 (6.5). -/
abbrev ProfileNo := Fin 8

/-- A capture buffer, 0 to 3 (6.5). -/
abbrev CaptureNo := Fin 4

end Sys2Proof
end

