-- ==== Sys2Proof/Syntax.lean ====
section
/-! DEFINITION. The commands of the Nawzen 2616: one constructor for each row of spec/opcode_table.json, with the
operands the row's rule names. The rows give no bits, so a command is what its sender says it is (log entry 3). -/

namespace Sys2Proof

/-- The two Ethernet ports (1.1). -/
inductive Port where
  | field
  | station
  deriving DecidableEq, Repr

/-- A command: an operation or an event of the part (opcode_table.json). Request parameters are the bytes and words
that a MGMT frame carries for them (12.3), so values outside their range can be asked for too. -/
inductive Instr where
  /-- POWER_ON_RESET (R189): power-on, or RESET_N going low. -/
  | powerOnReset
  /-- RESET_RELEASE (R189): RESET_N going high, or the end of power-on; the pins as they are read then. -/
  | resetRelease (bootSel : Bool) (tag : BitVec 10)
  /-- LINK_DOWN (R1): a port's link goes DOWN. -/
  | linkDown (port : Port)
  /-- LINK_UP (R1): a port's link comes UP. -/
  | linkUp (port : Port)
  /-- FRAME_RECEIVED (R2): a frame arrives whole at a port. `tag` is TAG as it stands at the arrival (R7), `fcsOk`
  whether the frame check sequence holds, `bytes` the frame from the first destination address byte to the last byte
  of the frame check sequence. -/
  | frameReceived (port : Port) (tag : BitVec 10) (fcsOk : Bool) (bytes : List Byte)
  /-- HOLDOFF_DONE (R76): a section whose hold-off count is 0 passes from HOLDOFF to WATCH. -/
  | holdoffDone (n : SectionNo)
  /-- EPOCH_REF_TICK (R37): a rising edge on EPOCH_REF; TAG as it stands then, which an ACTION frame carries (R13). -/
  | epochRefTick (tag : BitVec 10)
  /-- HOLDOVER_EXPIRY (R38): the holdover timer expires; TAG as it stands then. -/
  | holdoverExpiry (tag : BitVec 10)
  /-- STALE_LIMIT (R33): a LOCKED stream whose stale count has reached its limit becomes STALE. -/
  | staleLimit (m : SlotNo)
  /-- ACTION_RETRY (R145): a SENT record due for a retry returns to PENDING. -/
  | actionRetry (n : SectionNo)
  /-- ACTION_TIMEOUT (R150): a SENT record that has run out of time becomes FAILED. -/
  | actionTimeout (n : SectionNo)
  /-- STATION_TRANSMITTER_TAKE (R11): the station transmitter is free and takes its next frame; TAG as it stands at the
  taking (R174). -/
  | stationTransmitterTake (tag : BitVec 10)
  /-- FIELD_TRANSMITTER_TAKE (R12): the field transmitter is free and takes its next frame. -/
  | fieldTransmitterTake
  /-- MGMT_FRAME_TAKEN (R180): the management unit takes the oldest intake frame and executes its requests; with
  `some k`, only the next `k` pieces of that execution are done before the next command (R180, R184: events of other
  blocks may come between two requests and within a WRITE), and a further MGMT_FRAME_TAKEN goes on with it. TAG as it
  stands then is what the reply and IDENTIFY carry (R9, R188). -/
  | mgmtFrameTaken (pieces : Option Nat) (tag : BitVec 10)
  /-- READ (R182). -/
  | read (address : BitVec 16) (count : Byte)
  /-- WRITE (R184). -/
  | write (address : BitVec 16) (words : List Word)
  /-- SET_HAZARD (R119). -/
  | setHazard (level : Byte)
  /-- SET_PERMIT (R140). -/
  | setPermit (sec : Byte) (value : Byte)
  /-- RESTORE (R82). -/
  | restore (sec : Byte)
  /-- CLEAR_CONDITIONS (R131). -/
  | clearConditions (sec : Byte) (kinds : Byte)
  /-- CLEAR_STREAM (R25). -/
  | clearStream (slot : Byte)
  /-- RELEASE_CAPTURE (R167). -/
  | releaseCapture (index : Byte)
  /-- SUSPEND (R156). -/
  | suspend
  /-- RESUME (R156). -/
  | resume
  /-- RESTART (R187). -/
  | restart
  /-- IDENTIFY (R188), with TAG as it stands at the request. -/
  | identify (tag : BitVec 10)
  /-- IMAGE_PASS_1 (R190): the end of the first reading; the words read from the configuration memory, word 0 first. -/
  | imagePass1 (words : List Word)
  /-- LOAD_RECORD (R191): one load record read in pass 2, its header word and the data words read after it. -/
  | loadRecord (header : Word) (data : List Word)
  /-- END_OF_START_UP (R192): the reading of the image is done, with the check word as pass 2 reads it (R197). -/
  | endOfStartUp (check : Word)
  deriving DecidableEq, Repr

end Sys2Proof
end

