-- ==== Sys2Proof/Decode.lean ====
section
/-! DEFINITION. Reading a command from the bits of an opcode table row. Every row of spec/opcode_table.json has no
bits at all ("fields": [], no "fixed"): the commands are operations and events, not encoded words. So no word spells
a command (log entry 3). The bytes of frames are read in Machine/Frames.lean. -/

namespace Sys2Proof

/-- The command a table word spells: none, since no row of the table gives bits. -/
def decodeTableWord (_nbits _w : Nat) : Option Instr := none

end Sys2Proof
end

