-- ==== Sys2Proof/Config.lean ====
section
/-! DEFINITION. What the part fixes once: the capacities of chapter "Principal quantities", the fixed numbers of the
layouts chapter, and the two free values of the model: the order in which events that take no order are taken, and the
check sequence of a device frame. -/

namespace Sys2Proof.Config

/-- Frames a forwarding queue holds (R8). -/
def forwardingCapacity : Nat := 32

/-- Frames the management intake holds (R9). -/
def intakeCapacity : Nat := 4

/-- Frames the field port's action list holds (R10). -/
def actionListCapacity : Nat := 4

/-- Records the report queue holds (R173). -/
def reportCapacity : Nat := 64

/-- Records one REPORT frame carries at most (R174). -/
def reportFrameRecords : Nat := 8

/-- Evaluation records a history ring holds (R88). -/
def historyCapacity : Nat := 8

/-- Post-trigger records after which a capture freezes (R163). -/
def postTriggerCapacity : Nat := 8

/-- The Line Stream protocol type (R3). -/
def protocolType : BitVec 16 := 0xB29E

/-- The shortest and the longest frame that passes reception, in bytes, check sequence included (R2). -/
def minFrame : Nat := 64
def maxFrame : Nat := 2560

/-- Bytes of the frame check sequence at the end of every frame (R2, 12.2). -/
def fcsBytes : Nat := 4

/-- Bytes before the payload of a Line Stream frame (12.2). -/
def headerBytes : Nat := 22

/-- The configuration image's mark and its greatest body length in words (R190). -/
def imageMark : BitVec 16 := 0x4E57
def maxImageWords : Nat := 4096

/-- The largest number of words one READ or WRITE carries (R182, R183). -/
def maxRequestWords : Nat := 64

/-- Part code and revision (R188). -/
def partCode : Nat := 2616
def revision : Nat := 1

/-- FREE VALUE. The frame check sequence that the port computes for a device frame, from the frame's bytes before it
(R13). The manual names the Ethernet check sequence and gives no rule for it, so this constant has no body (log entry
6). -/
opaque frameCheck : List (BitVec 8) → BitVec 32

/-- FREE VALUE. The order in which events that take no order among them are taken (R42, R57, R79, R111, R145, R162,
R171; log entry 1). The model asks for the k-th such choice once, in turn,
and reads this constant when the state's own list of choices is used up. It has no body: no statement can rest on
what it is. -/
opaque freeOrder : Nat → Nat

end Sys2Proof.Config
end

