-- ==== Sys2Proof/Machine/State.lean ====
section
/-! DEFINITION. The state of the part, block by block as 3 "Block overview" lists what each block owns, and its value
right after reset. State is plain data. -/

namespace Sys2Proof.Machine

/-! ## Names the manual gives -/

/-- Entry state of a stream, profile or section entry (R16, R69, R116). -/
inductive EntryState where
  | empty | loading | invalid | valid
  deriving DecidableEq, Repr

/-- Stream state (2.3); `noState` is the NONE of 12.5: the entry is not VALID. -/
inductive StreamState where
  | noState | acquiring | locked | stale
  deriving DecidableEq, Repr

/-- Last position of a switching device (2.3). -/
inductive Position where
  | unknown | opened | closed | moving
  deriving DecidableEq, Repr

/-- The six kinds of stream error (2.4). -/
inductive ErrorKind where
  | descriptorMismatch | channelShort | early | late | duplicate | sensorFault
  deriving DecidableEq, Repr

/-- The quantities a channel map names (2.1). -/
inductive Quantity where
  | ia | ib | ic | va | vb | vc
  deriving DecidableEq, Repr

/-- Phases A, B and C (6.5). -/
inductive Phase where
  | a | b | c
  deriving DecidableEq, Repr

/-- One thing for each phase. -/
structure PerPhase (α : Type) where
  a : α
  b : α
  c : α
  deriving DecidableEq, Repr

/-- A subset of the phases A, B and C (6.6). -/
abbrev PhaseSet := PerPhase Bool

/-- Clock state (3.1). -/
inductive ClockState where
  | unset | run | holdover
  deriving DecidableEq, Repr

/-- SYNC acceptance mode (3.1). -/
inductive SyncMode where
  | every | nextOnly | skipOneThenEvery | off
  deriving DecidableEq, Repr

/-- Acceptance progress (R44); `nothing` is the "—" of EVERY and OFF. -/
inductive Progress where
  | nothing | waiting | done | skipping | passing
  deriving DecidableEq, Repr

/-- Section state (5.4). -/
inductive SectionMode where
  | off | arming | holdoff | watch | blind | deenergized | latched
  deriving DecidableEq, Repr

/-- Hazard level (7.2). -/
inductive Hazard where
  | normal | elevated
  deriving DecidableEq, Repr

/-- The six kinds of condition (7.3). -/
inductive Kind where
  | opened | downed | sightLoss | memberResync | actionFailed | backupCalled
  deriving DecidableEq, Repr

/-- The response of a set kind (R127). -/
inductive Response where
  | isolate | report | record
  deriving DecidableEq, Repr

/-- State of an action record (8.1). -/
inductive ActionState where
  | noAction | held | pending | sent | confirmed | failed
  deriving DecidableEq, Repr

/-- Cause of an action record (8.1). -/
inductive Cause where
  | escalation | downed | opened | sightLoss | memberResync
  deriving DecidableEq, Repr

/-- Device mode (R186). -/
inductive DeviceMode where
  | starting | active | suspended
  deriving DecidableEq, Repr

/-- Image status (11). -/
inductive ImageStatus where
  | noImage | rejected | applied | appliedWithErrors
  deriving DecidableEq, Repr

/-- Capture buffer state (9.1). -/
inductive CaptureState where
  | free | filling | frozen
  deriving DecidableEq, Repr

/-- Trigger kind of a capture (R109). -/
inductive Trigger where
  | downedPickup | openPickup
  deriving DecidableEq, Repr

/-- Validation reason of a stream entry (R17). -/
inductive StreamReason where
  | good | badField | badIdentifier | badStaleLimit | mapConflict | noCurrent | duplicateId
  deriving DecidableEq, Repr

/-- Validation reason of a section entry (R70). -/
inductive SectionReason where
  | good | badField | badAllowance | memberConflict | badBackup | profileNotValid
  deriving DecidableEq, Repr

/-- Validation reason of a profile entry (R117). -/
inductive ProfileReason where
  | good | badField | badRange | irrExceedsWindow | retryExceedsTimeout
  deriving DecidableEq, Repr

/-- Result codes of requests (11.1). -/
inductive ResultCode where
  | ok | badAddress | badLength | badValue | inUse | busy | actionBusy | notReady
  deriving DecidableEq, Repr

/-- Causes of SECTION_STATE (R89). -/
inductive SectionCause where
  | commit | loading | armed | holdoffDone | sightLost | sightRegained | switchOpen | latch | switchClosed | restore
  deriving DecidableEq, Repr

/-- Causes of STREAM_STATE (R172). -/
inductive StreamCause where
  | commit | matched | resync | staleLimit | resumed | loading
  deriving DecidableEq, Repr

/-- Causes of CLOCK_STATE (R47). -/
inductive ClockCause where
  | numbered | step | holdoverEntered | pulseRestored
  deriving DecidableEq, Repr

/-- Causes of CONDITION_CLEARED (R129). -/
inductive ClearCause where
  | sightRegained | self | leftService | clearRequest | restore | loading
  deriving DecidableEq, Repr

/-- Reasons of ACTION_HELD (R137). -/
inductive HeldReason where
  | permitOff | notActive
  deriving DecidableEq, Repr

/-- Reasons of ACTION_CANCELLED (R141). -/
inductive DropReason where
  | liveCleared | clearRequest | loading
  deriving DecidableEq, Repr

/-- Reasons of ESCALATION_EXHAUSTED (R151). -/
inductive ExhaustedReason where
  | noBackup | backupOff | noSwitch | hopLimit
  deriving DecidableEq, Repr

/-! ## Streams and rings -/

/-- A phasor in rectangular form; every component lies in −32767 to +32767 (6.2). -/
structure Phasor where
  re : Int
  im : Int
  deriving DecidableEq, Repr

/-- What a slot record holds for one quantity: no field (the map names NONE), ABSENT, or a phasor (4.1). -/
inductive Reading where
  | unmapped
  | absent
  | phasor (p : Phasor)
  deriving DecidableEq, Repr

/-- A slot record (4.1). -/
structure SlotRecord where
  epoch : Epoch
  faulty : Bool
  ia : Reading
  ib : Reading
  ic : Reading
  va : Reading
  vb : Reading
  vc : Reading
  deriving DecidableEq, Repr

/-- The sticky error flags of a slot, one per error kind (2.3). -/
structure ErrorFlags where
  descriptorMismatch : Bool
  channelShort : Bool
  early : Bool
  late : Bool
  duplicate : Bool
  sensorFault : Bool
  deriving DecidableEq, Repr

/-- One slot: its stream entry (2.1, 2.2), the stream unit's dynamic state (2.3) and its alignment ring (4.1). -/
structure SlotState where
  words : Vector Word 6
  entry : EntryState
  reason : StreamReason
  stream : StreamState
  sticky : ErrorFlags
  errors : Nat
  position : Position
  everLocked : Bool
  staleCount : Nat
  ring : Vector (Option SlotRecord) 16
  deriving DecidableEq, Repr

/-! ## The clock -/

/-- The epoch clock (3.1). `timer` is the time in ms from the holdover timer's last start to its expiry, `none` while
it has not been started; how much of that time has passed is not held (log entry 4). -/
structure EpochClock where
  c : Epoch
  state : ClockState
  announce : Option Epoch
  progress : Progress
  timer : Option Nat
  deriving DecidableEq, Repr

/-! ## Sections, conditions, profiles -/

/-- One outcome of stage 4: its epoch, and whether it was IRREGULAR (R99). -/
structure OutcomeAt where
  epoch : Epoch
  irregular : Bool
  deriving DecidableEq, Repr

/-- The detection state of one phase of one section (R92). The window is oldest first. -/
structure PhaseState where
  acc : Nat
  openCount : Nat
  window : List OutcomeAt
  prev : Option Nat
  deriving DecidableEq, Repr

/-- The values of one phase in an evaluation record (R107). -/
structure PhaseValues where
  umag : Option Nat
  dmag : Option Nat
  threshold : Option Nat
  acc : Nat
  openCount : Nat
  deriving DecidableEq, Repr

/-- An evaluation record (R88, R107): COMPLETE with its phase values, or INCOMPLETE with none. -/
structure EvalRecord where
  epoch : Epoch
  phases : Option (PerPhase PhaseValues)
  deriving DecidableEq, Repr

/-- One section: its entry (5.1, 5.2) and the section evaluator's state for it (5.4, R92). The history ring is oldest
first. -/
structure SectionState where
  words : Vector Word 6
  entry : EntryState
  reason : SectionReason
  mode : SectionMode
  next : Epoch
  incomplete : Nat
  holdoff : Nat
  history : List EvalRecord
  phases : PerPhase PhaseState
  deriving DecidableEq, Repr

/-- What a set kind holds: its response (R127), and the profile and hazard level it was chosen from, which the
CONDITION_SET records of the kind name (R129, log entry 5). -/
structure Raised where
  response : Response
  profile : ProfileNo
  level : Hazard
  deriving DecidableEq, Repr

/-- A section's condition set (7.3). A phase set is empty while its kind is clear. -/
structure ConditionSet where
  opened : Option Raised
  downed : Option Raised
  sightLoss : Option Raised
  memberResync : Option Raised
  actionFailed : Option Raised
  backupCalled : Option Raised
  openPhases : PhaseSet
  downedPhases : PhaseSet
  deriving DecidableEq, Repr

/-- A profile entry (7.1). -/
structure ProfileEntry where
  words : Vector Word 12
  entry : EntryState
  reason : ProfileReason
  deriving DecidableEq, Repr

/-! ## Actions and captures -/

/-- An action record (8.1). While `state` is `noAction` the cause and target are not read. -/
structure ActionRecord where
  state : ActionState
  cause : Cause
  target : SlotNo
  attempts : Nat
  firstSent : Option Epoch
  lastSent : Option Epoch
  origins : List SectionNo
  deriving DecidableEq, Repr

/-- A capture buffer (9.1). -/
structure Capture where
  state : CaptureState
  sec : SectionNo
  triggerEpoch : Epoch
  trigger : Trigger
  profile : ProfileNo
  short : Bool
  pre : Nat
  post : Nat
  records : List EvalRecord
  deriving DecidableEq, Repr

/-! ## Reports -/

/-- Originator of a report record (R170). -/
inductive Originator where
  | device
  | sec (n : SectionNo)
  | slot (m : SlotNo)
  deriving DecidableEq, Repr

/-- New stream state of a STREAM_STATE record (R172). -/
inductive ReportedStream where
  | inState (x : StreamState)
  | outOfService
  deriving DecidableEq, Repr

/-- Kind and detail of a report record, one constructor per kind of 10.2 and one per originator class of SUMMARY. -/
inductive Detail where
  | conditionSet (kind : Kind) (phases : PhaseSet) (raised : Raised) (added : Bool)
  | conditionCleared (kind : Kind) (phases : PhaseSet) (cause : ClearCause)
  | actionHeld (cause : Cause) (target : SlotNo) (reason : HeldReason)
  | actionSent (cause : Cause) (target : SlotNo) (stream : BitVec 16) (attempt : Nat) (firstSent : Option Epoch)
  | actionConfirmed (cause : Cause) (target : SlotNo) (attempts : Nat) (origins : Nat)
  | actionFailed (cause : Cause) (target : SlotNo) (attempts : Nat) (firstSent : Option Epoch) (origins : Nat)
  | actionCancelled (cause : Cause) (reason : DropReason) (attempts : Nat)
  | escalated (source : SectionNo) (target : SectionNo) (hop : Nat) (state : ActionState)
  | escalationExhausted (reason : ExhaustedReason) (hops : Nat) (group : List SectionNo)
  | sectionState (prev : SectionMode) (new : SectionMode) (cause : SectionCause) (next : Epoch)
  | streamState (stream : BitVec 16) (prev : StreamState) (new : ReportedStream) (cause : StreamCause)
      (error : Option ErrorKind)
  | clockState (prev : ClockState) (new : ClockState) (oldC : Epoch) (newC : Epoch) (cause : ClockCause)
  | hazardChange (prev : Hazard) (new : Hazard)
  | captureFrozen (index : CaptureNo) (triggerEpoch : Epoch) (trigger : Trigger) (short : Bool) (pre : Nat) (post : Nat)
  | summaryDevice (clock : ClockState) (c : Epoch) (announce : Option Epoch) (level : Hazard) (mode : DeviceMode)
      (image : ImageStatus) (alarmA : Bool) (alarmB : Bool)
  | summarySection (entry : EntryState) (mode : SectionMode) (next : Epoch) (incomplete : Nat) (conds : ConditionSet)
      (action : ActionRecord) (missed : Bool)
  | summarySlot (entry : EntryState) (stream : BitVec 16) (state : StreamState) (sticky : ErrorFlags) (errors : Nat)
      (position : Position)
  deriving DecidableEq, Repr

/-- A report record (R170). -/
structure ReportRecord where
  origin : Originator
  epoch : Option Epoch
  detail : Detail
  deriving DecidableEq, Repr

/-- The report unit (10): the queue, oldest first, and the owed marks of the 97 originators. -/
structure ReportUnit where
  queue : List ReportRecord
  owedDevice : Bool
  owedSections : Vector Bool 32
  owedSlots : Vector Bool 64
  deriving DecidableEq, Repr

/-! ## Ports -/

/-- One result of a request in a MGMT_REPLY: the request code, the result code and the data (12.3). -/
structure Result where
  request : Byte
  code : ResultCode
  data : List Byte
  deriving DecidableEq, Repr

/-- A MGMT_REPLY waiting in the reply hold (R9): the address it answers (R13), TAG and the results. -/
structure Reply where
  dest : List Byte
  tag : BitVec 10
  results : List Result
  deriving DecidableEq, Repr

/-- An ACTION frame as the action unit assembled it at the send slot (R143, R13). -/
structure ActionFrame where
  tag : BitVec 10
  stream : BitVec 16
  epoch : Epoch
  sec : SectionNo
  cause : Cause
  attempt : Nat
  deriving DecidableEq, Repr

/-- A frame in transmission: a forwarded frame with its own check sequence, or a device frame with the one the port
computes (R13, log entry 6). -/
inductive LineFrame where
  | forwarded (bytes : List Byte)
  | device (bytes : List Byte)
  deriving DecidableEq, Repr

/-- The port interface (1.1): the link states, the queues and holds, and the transmitters (`none` is IDLE). -/
structure PortState where
  fieldUp : Bool
  stationUp : Bool
  toStation : List (List Byte)
  toField : List (List Byte)
  intake : List (List Byte)
  replyHold : Option Reply
  actionList : List ActionFrame
  stationTx : Option LineFrame
  fieldTx : Option LineFrame
  deriving DecidableEq, Repr

/-- The input pins that are levels (3.2): TAG as last brought by a command that reads it (log entry 13), and BOOT_SEL as
read at the last release of RESET_N. RESET_N itself is `BootPhase.resetLow`; the alarm outputs are functions of the
state (R133). -/
structure Pins where
  tag : BitVec 10
  bootSel : Bool
  deriving DecidableEq, Repr

/-! ## Management and start-up -/

/-- A request as it stands in a MGMT frame: its code and parameter bytes (12.3). -/
structure RawRequest where
  code : Byte
  params : List Byte
  deriving DecidableEq, Repr

/-- A WRITE of a table region under way (R184): the address of the next word, the words still to be written, and the
entries committed so far. -/
structure TableWrite where
  address : Nat
  words : List Word
  committed : Nat
  deriving DecidableEq, Repr

/-- The execution of one MGMT frame (R180): the address to answer, the device mode as it was read when the frame was
taken, the requests still to be executed, the results so far, and the WRITE under way. -/
structure MgmtExec where
  dest : List Byte
  mode : DeviceMode
  todo : List RawRequest
  results : List Result
  writing : Option TableWrite
  deriving DecidableEq, Repr

/-- Pass 2 of the image load (R191): the identity and word count that the header gave, how many body words have been
read, the sum of them, the mark for errors, and whether the pass has ended before the body did. -/
structure Pass2 where
  identity : Word
  wordCount : Nat
  taken : Nat
  sum : Word
  errors : Bool
  ended : Bool
  deriving DecidableEq, Repr

/-- Where start-up stands (R189): RESET_N low, reading pass 1, reading pass 2, or over. -/
inductive BootPhase where
  | resetLow
  | pass1
  | pass2 (p : Pass2)
  | over
  deriving DecidableEq, Repr

/-- The state of the part. The last five fields are the model's own: the result of the last request sent as a command
of its own (log entry 7), the choices of order still to be used and the number of choices asked beyond them (log
entry 1), and the waiting commands. -/
@[ext]
structure State where
  pins : Pins
  port : PortState
  slots : Vector SlotState 64
  clock : EpochClock
  closureMark : Option Epoch
  sections : Vector SectionState 32
  conds : Vector ConditionSet 32
  profiles : Vector ProfileEntry 8
  hazard : Hazard
  actions : Vector ActionRecord 32
  captures : Vector Capture 4
  missed : Vector Bool 32
  report : ReportUnit
  settings : Vector Word 4
  mode : DeviceMode
  imageStatus : ImageStatus
  imageIdentity : Option Word
  boot : BootPhase
  executing : Option MgmtExec
  lastResult : Option Result
  order : List Nat
  orderIndex : Nat
  pending : List Instr
  deriving DecidableEq, Repr

/-- Faults: none. The manual describes no event that stops the part, so nothing raises one. -/
inductive Fault where
  deriving DecidableEq, Repr

/-- Refusals. -/
inductive Refusal where
  /-- An arm of exec whose meaning has not been written raises this; safe, the run stops. No arm does. -/
  | notModelled (mnemonic : String)
  /-- IMAGE_PASS_1 and LOAD_RECORD raise this when the command does not carry the words that the reading it stands
  for has read (R197): no reading of the part's is the one described. Safe: the run stops. -/
  | incompleteReading
  deriving DecidableEq, Repr

/-! ## Reset values -/

/-- No error flag is set. -/
def ErrorFlags.clear : ErrorFlags := ⟨false, false, false, false, false, false⟩

/-- No phase. -/
def noPhases : PhaseSet := ⟨false, false, false⟩

/-- An emptied ring (R50). -/
def emptyRing : Vector (Option SlotRecord) 16 := Vector.replicate 16 none

/-- An EMPTY slot with no stream state (R35, R181). -/
def SlotState.blank : SlotState :=
  { words := Vector.replicate 6 0, entry := .empty, reason := .good, stream := .noState, sticky := ErrorFlags.clear
    errors := 0, position := .unknown, everLocked := false, staleCount := 0, ring := emptyRing }

/-- The start values of a phase (R92). -/
def PhaseState.start : PhaseState := { acc := 0, openCount := 0, window := [], prev := none }

/-- The start values of the three phases (R92). -/
def startPhases : PerPhase PhaseState := ⟨PhaseState.start, PhaseState.start, PhaseState.start⟩

/-- An EMPTY section, OFF (R91, R181). -/
def SectionState.blank : SectionState :=
  { words := Vector.replicate 6 0, entry := .empty, reason := .good, mode := .off, next := 0, incomplete := 0
    holdoff := 0, history := [], phases := startPhases }

/-- The empty condition set (R122). -/
def ConditionSet.empty : ConditionSet :=
  { opened := none, downed := none, sightLoss := none, memberResync := none, actionFailed := none
    backupCalled := none, openPhases := noPhases, downedPhases := noPhases }

/-- An EMPTY profile entry (R134, R181). -/
def ProfileEntry.blank : ProfileEntry := { words := Vector.replicate 12 0, entry := .empty, reason := .good }

/-- An action record in NONE (8.1, R158). -/
def ActionRecord.none : ActionRecord :=
  { state := .noAction, cause := .escalation, target := 0, attempts := 0, firstSent := Option.none
    lastSent := Option.none, origins := [] }

/-- A FREE capture buffer (R160). -/
def Capture.cleared : Capture :=
  { state := .free, sec := 0, triggerEpoch := 0, trigger := .downedPickup, profile := 0, short := false, pre := 0
    post := 0, records := [] }

/-- The report unit with an empty queue and no owed mark (R179). -/
def ReportUnit.empty : ReportUnit :=
  { queue := [], owedDevice := false, owedSections := Vector.replicate 32 false, owedSlots := Vector.replicate 64 false }

/-- The default device settings words (R181, R185): 100 ms, L 4; EVERY, ELEVATED; both alarm sets empty. The bits that no
field occupies are 0: the manual gives defaults for the fields only (DESIGN CHOICE, log entry 35). -/
def defaultSettings : Vector Word 4 := #v[0x00000402, 0x00000100, 0, 0]

/-- The clock right after reset (R49): UNSET, its timer not yet started. -/
def EpochClock.start : EpochClock :=
  { c := 0, state := .unset, announce := none, progress := .nothing, timer := none }

/-- The ports right after reset (R14). The link states are the physical layer's; UP is the model's choice (log
entry 8). -/
def PortState.start : PortState :=
  { fieldUp := true, stationUp := true, toStation := [], toField := [], intake := [], replyHold := none
    actionList := [], stationTx := none, fieldTx := none }

/-- The part right after power-on, RESET_N low (R189). TAG, BOOT_SEL and the links are the outside's: their values
here are the model's choice (log entry 8). -/
def State.reset : State :=
  { pins := { tag := 0, bootSel := false }
    port := PortState.start
    slots := Vector.replicate 64 SlotState.blank
    clock := EpochClock.start
    closureMark := none
    sections := Vector.replicate 32 SectionState.blank
    conds := Vector.replicate 32 ConditionSet.empty
    profiles := Vector.replicate 8 ProfileEntry.blank
    hazard := .elevated
    actions := Vector.replicate 32 ActionRecord.none
    captures := Vector.replicate 4 Capture.cleared
    missed := Vector.replicate 32 false
    report := ReportUnit.empty
    settings := defaultSettings
    mode := .starting
    imageStatus := .noImage
    imageIdentity := none
    boot := .resetLow
    executing := none
    lastResult := none
    order := []
    orderIndex := 0
    pending := [] }

end Sys2Proof.Machine
end

