-- ==== Sys2Proof/Machine/Operands.lean ====
section
/-! DEFINITION. The operand forms: the fields of the four tables' entries, read out of their words by the layouts of
12.6, and the small vocabulary over names, phases and kinds that every block reads them with. -/

namespace Sys2Proof.Machine

/-! ## Bit fields (R193) -/

/-- The field of `width` bits whose lowest bit is bit `lo` of a word, as a number. -/
def bits (w : Word) (lo width : Nat) : Nat := (w.toNat >>> lo) % 2 ^ width

/-! ## Phases, quantities, kinds -/

def allPhases : List Phase := [.a, .b, .c]

def PerPhase.get {α : Type} (x : PerPhase α) : Phase → α
  | .a => x.a
  | .b => x.b
  | .c => x.c

def PerPhase.map {α β : Type} (f : α → β) (x : PerPhase α) : PerPhase β := ⟨f x.a, f x.b, f x.c⟩

/-- One thing for each phase, made by a function of the phase. -/
def perPhase {α : Type} (f : Phase → α) : PerPhase α := ⟨f .a, f .b, f .c⟩

/-- Whether a phase set has a member. -/
def PhaseSet.some (x : PhaseSet) : Bool := x.a || x.b || x.c

/-- The union of two phase sets (R123). -/
def PhaseSet.union (x y : PhaseSet) : PhaseSet := ⟨x.a || y.a, x.b || y.b, x.c || y.c⟩

/-- The two phases other than a given one (R103). -/
def otherPhases : Phase → Phase × Phase
  | .a => (.b, .c)
  | .b => (.a, .c)
  | .c => (.a, .b)

/-- The current quantity of a phase, I_p. -/
def currentOf : Phase → Quantity
  | .a => .ia
  | .b => .ib
  | .c => .ic

/-- The voltage quantity of a phase, V_p. -/
def voltageOf : Phase → Quantity
  | .a => .va
  | .b => .vb
  | .c => .vc

def allQuantities : List Quantity := [.ia, .ib, .ic, .va, .vb, .vc]

/-- The place of a quantity in the channel map (12.6). -/
def Quantity.index : Quantity → Nat
  | .ia => 0
  | .ib => 1
  | .ic => 2
  | .va => 3
  | .vb => 4
  | .vc => 5

/-- Whether a quantity is a current (R31: polarity acts on the currents). -/
def Quantity.isCurrent : Quantity → Bool
  | .ia | .ib | .ic => true
  | .va | .vb | .vc => false

/-- The field of a slot record for a quantity (4.1). -/
def SlotRecord.get (r : SlotRecord) : Quantity → Reading
  | .ia => r.ia
  | .ib => r.ib
  | .ic => r.ic
  | .va => r.va
  | .vb => r.vb
  | .vc => r.vc

/-- The bit of an error kind in a set of error kinds (12.5). -/
def ErrorKind.bit : ErrorKind → Nat
  | .descriptorMismatch => 0
  | .channelShort => 1
  | .early => 2
  | .late => 3
  | .duplicate => 4
  | .sensorFault => 5

/-- The bit of a condition kind in a set of condition kinds (12.5). -/
def Kind.bit : Kind → Nat
  | .opened => 0
  | .downed => 1
  | .sightLoss => 2
  | .memberResync => 3
  | .actionFailed => 4
  | .backupCalled => 5

/-- The latched kinds, in the order R131 lists them. -/
def latchedKinds : List Kind := [.opened, .downed, .actionFailed, .backupCalled]

/-- The live kinds, in the order R83 lists them. -/
def liveKinds : List Kind := [.sightLoss, .memberResync]

/-- The kind whose clearing drops an action of a cause (R141): none for ESCALATION. -/
def Cause.kind : Cause → Option Kind
  | .escalation => none
  | .downed => some .downed
  | .opened => some .opened
  | .sightLoss => some .sightLoss
  | .memberResync => some .memberResync

/-- The cause an isolating kind hands to the action unit (R127). ACTION_FAILED and BACKUP_CALLED hand none. -/
def Kind.cause : Kind → Option Cause
  | .opened => some .opened
  | .downed => some .downed
  | .sightLoss => some .sightLoss
  | .memberResync => some .memberResync
  | .actionFailed => none
  | .backupCalled => none

/-- Rank of a cause at the send slot (R142). -/
def Cause.rank : Cause → Nat
  | .escalation => 1
  | .downed => 2
  | .opened => 3
  | .sightLoss => 4
  | .memberResync => 5

/-! ## Device settings (R185, 12.6) -/

/-- The epoch period in ms. -/
def epochPeriod (w : Vector Word 4) : Nat :=
  match bits w[0] 0 2 with
  | 0 => 20
  | 1 => 50
  | 2 => 100
  | _ => 200

/-- The alignment allowance L. -/
def allowanceL (w : Vector Word 4) : Nat := bits w[0] 8 4

def syncMode (w : Vector Word 4) : SyncMode :=
  match bits w[1] 0 2 with
  | 0 => .every
  | 1 => .nextOnly
  | 2 => .skipOneThenEvery
  | _ => .off

def initialHazard (w : Vector Word 4) : Hazard := if w[1].getLsbD 8 then .elevated else .normal

def alarmSetA (w : Vector Word 4) (n : SectionNo) : Bool := w[2].getLsbD n

def alarmSetB (w : Vector Word 4) (n : SectionNo) : Bool := w[3].getLsbD n

/-! ## Stream entry (2.1, 12.6) -/

def streamId (w : Vector Word 6) : BitVec 16 := w[0].setWidth 16

/-- Forwarding: CONSUME (R6). -/
def consumes (w : Vector Word 6) : Bool := w[1].getLsbD 0

/-- Polarity: INVERTED (R15). -/
def inverted (w : Vector Word 6) : Bool := w[1].getLsbD 1

def expectedScale (w : Vector Word 6) : Nat := bits w[1] 8 4

/-- The raw channel map field of a quantity. -/
def mapField (w : Vector Word 6) (q : Quantity) : Nat := bits w[2] (4 * q.index) 4

/-- The channel index of a quantity, or NONE. -/
def mapIndex (w : Vector Word 6) (q : Quantity) : Option Nat :=
  if mapField w q = 15 then none else some (mapField w q)

/-- The channel indices the map names, in the map's order. -/
def mappedIndices (w : Vector Word 6) : List Nat := allQuantities.filterMap (mapIndex w)

/-- The channels a MEASURE frame must have to cover the map: h + 1 (R26). -/
def channelsNeeded (w : Vector Word 6) : Nat := (mappedIndices w).foldl (fun m i => max m (i + 1)) 0

def staleLimit (w : Vector Word 6) : Nat := bits w[3] 0 8

def inCountMask (w : Vector Word 6) (k : ErrorKind) : Bool := w[4].getLsbD k.bit

def inResyncMask (w : Vector Word 6) (k : ErrorKind) : Bool := w[5].getLsbD k.bit

/-! ## Profile entry (6.2, 7.1, 12.6) -/

namespace Prof

def pickup (w : Vector Word 12) : Nat := bits w[0] 0 16
def slope (w : Vector Word 12) : Nat := bits w[0] 16 8
def excessCap (w : Vector Word 12) : Nat := bits w[1] 0 16
def leak (w : Vector Word 12) : Nat := bits w[1] 16 8
def tripLevel (w : Vector Word 12) : Nat := bits w[2] 0 16
def burst (w : Vector Word 12) : Nat := bits w[2] 16 16
def windowLen (w : Vector Word 12) : Nat := bits w[3] 0 8
def irrRequired (w : Vector Word 12) : Nat := bits w[3] 8 8
def openPersist (w : Vector Word 12) : Nat := bits w[3] 16 8
def openFloor (w : Vector Word 12) : Nat := bits w[4] 0 16
def loadFloor (w : Vector Word 12) : Nat := bits w[4] 16 16
def vCollapse (w : Vector Word 12) : Nat := bits w[5] 0 16
def vHealthy (w : Vector Word 12) : Nat := bits w[5] 16 16
def blindAfter (w : Vector Word 12) : Nat := bits w[6] 0 8
def holdoffEpochs (w : Vector Word 12) : Nat := bits w[6] 8 8
def isolates (w : Vector Word 12) (k : Kind) : Bool := decide (k.bit < 4) && w[7].getLsbD k.bit
def reports (w : Vector Word 12) (k : Kind) : Bool := w[8].getLsbD k.bit
def attempts (w : Vector Word 12) : Nat := bits w[9] 0 8
def retryEpochs (w : Vector Word 12) : Nat := bits w[10] 0 8
def confirmTimeout (w : Vector Word 12) : Nat := bits w[11] 0 8

end Prof

/-- The positions of the report mask held set: OPEN, DOWNED and ACTION_FAILED (R116). -/
def heldReportMask : Word := 0x13

/-! ## Section entry (5.1, 12.6) -/

/-- A slot number out of a byte field. A VALID entry's fields are in range (R195). -/
def toSlot (k : Nat) : SlotNo := Fin.ofNat 64 k

/-- An optional slot field: 255 is NONE. -/
def optSlot (k : Nat) : Option SlotNo := if k = 255 then none else some (toSlot k)

def upstreamField (w : Vector Word 6) : Nat := bits w[0] 0 8
def voltageField (w : Vector Word 6) : Nat := bits w[0] 8 8
def switchField (w : Vector Word 6) : Nat := bits w[0] 16 8
def backupField (w : Vector Word 6) : Nat := bits w[0] 24 8
def downstreamCount (w : Vector Word 6) : Nat := bits w[1] 0 8

/-- The six downstream slot fields, in order. -/
def downstreamFields (w : Vector Word 6) : List Nat :=
  [bits w[1] 8 8, bits w[1] 16 8, bits w[1] 24 8, bits w[2] 0 8, bits w[2] 8 8, bits w[2] 16 8]

def upstreamSlot (w : Vector Word 6) : SlotNo := toSlot (upstreamField w)

/-- The downstream slots: the fields within the downstream count (R195). -/
def downstreamSlots (w : Vector Word 6) : List SlotNo :=
  ((downstreamFields w).take (downstreamCount w)).map toSlot

def voltageSlot (w : Vector Word 6) : Option SlotNo := optSlot (voltageField w)

def switchSlot (w : Vector Word 6) : Option SlotNo := optSlot (switchField w)

def backupSection (w : Vector Word 6) : Option SectionNo :=
  if backupField w = 255 then none else some (Fin.ofNat 32 (backupField w))

def normalField (w : Vector Word 6) : Nat := bits w[3] 0 8
def elevatedField (w : Vector Word 6) : Nat := bits w[3] 8 8

/-- The profile a section works under at a hazard level (R68, R93). -/
def profileAt (w : Vector Word 6) : Hazard → ProfileNo
  | .normal => Fin.ofNat 8 (normalField w)
  | .elevated => Fin.ofNat 8 (elevatedField w)

/-- The isolate permit (R136). -/
def permitOn (w : Vector Word 6) : Bool := w[3].getLsbD 16

/-- The load allowance of a phase. -/
def loadAllowance (w : Vector Word 6) : Phase → Nat
  | .a => bits w[4] 0 16
  | .b => bits w[4] 16 16
  | .c => bits w[5] 0 16

/-- The members of a section (R71); a slot named twice is one member. -/
def members (w : Vector Word 6) : List SlotNo :=
  upstreamSlot w :: downstreamSlots w ++ (voltageSlot w).toList

end Sys2Proof.Machine
end

