-- ==== Sys2Proof/Machine/Ops.lean ====
section
/-! DEFINITION. The named operations over the state that every block uses: the update of one slot, section, record or
buffer; serial arithmetic; the choice of an order that the manual leaves open; and handing a record to the report
unit. -/

namespace Sys2Proof.Machine

/-! ## Serial arithmetic (6.3) -/

/-- The serial difference from epoch `x` to epoch `y`, −32768 to +32767. -/
def serialDiff (x y : Epoch) : Int := (y - x).toInt

/-- Epoch `x` is at or before epoch `y`. -/
def atOrBefore (x y : Epoch) : Bool := decide (0 ≤ serialDiff x y)

/-- A count of 0 to 255 that rises by 1 and saturates (6.7). -/
def saturatingSucc (k : Nat) : Nat := min 255 (k + 1)

/-! ## Updates of one part of the state -/

namespace State

def modPort (f : PortState → PortState) (s : State) : State := { s with port := f s.port }

def modClock (f : EpochClock → EpochClock) (s : State) : State := { s with clock := f s.clock }

def modSlot (m : SlotNo) (f : SlotState → SlotState) (s : State) : State :=
  { s with slots := s.slots.set m (f s.slots[m]) }

def modSection (n : SectionNo) (f : SectionState → SectionState) (s : State) : State :=
  { s with sections := s.sections.set n (f s.sections[n]) }

def modConds (n : SectionNo) (f : ConditionSet → ConditionSet) (s : State) : State :=
  { s with conds := s.conds.set n (f s.conds[n]) }

def modProfile (p : ProfileNo) (f : ProfileEntry → ProfileEntry) (s : State) : State :=
  { s with profiles := s.profiles.set p (f s.profiles[p]) }

def modAction (n : SectionNo) (f : ActionRecord → ActionRecord) (s : State) : State :=
  { s with actions := s.actions.set n (f s.actions[n]) }

def setCapture (i : CaptureNo) (b : Capture) (s : State) : State := { s with captures := s.captures.set i b }

def setMissed (n : SectionNo) (b : Bool) (s : State) : State := { s with missed := s.missed.set n b }

def setReport (r : ReportUnit) (s : State) : State := { s with report := r }

/-- Every ring changed by one function (closures, clock steps, RESTART). -/
def mapRings (f : Vector (Option SlotRecord) 16 → Vector (Option SlotRecord) 16) (s : State) : State :=
  { s with slots := s.slots.map (fun x => { x with ring := f x.ring }) }

end State

/-! ## Lists of the numbered things -/

def allSlots : List SlotNo := List.finRange 64
def allSections : List SectionNo := List.finRange 32
def allProfiles : List ProfileNo := List.finRange 8
def allCaptures : List CaptureNo := List.finRange 4

/-! ## Orders the manual leaves open (R42, R57, R79, R145, R162, R171; log entry 1) -/

/-- One interleaving of threads, each of which keeps its own order; `code` says which. Every interleaving has a code:
read it as digits, the first one modulo the number of threads that still hold something. -/
def interleaveUpTo {α : Type} : Nat → Nat → List (List α) → List α
  | 0, _, _ => []
  | fuel + 1, code, threads =>
    match threads.filter (fun t => !t.isEmpty) with
    | [] => []
    | [t] => t
    | live =>
      match live[code % live.length]? with
      | some (x :: rest) =>
        x :: interleaveUpTo fuel (code / live.length) (live.set (code % live.length) rest)
      | _ => []

/-- One interleaving of threads. -/
def interleave {α : Type} (code : Nat) (threads : List (List α)) : List α :=
  interleaveUpTo (threads.map List.length).sum code threads

/-- One ordering of a list. -/
def arrange {α : Type} (code : Nat) (l : List α) : List α := interleave code (l.map (fun x => [x]))

/-- The next choice of an order: from the state's own list while it lasts, else free (Config.freeOrder). -/
def nextOrder (s : State) : Nat × State :=
  match s.order with
  | code :: rest => (code, { s with order := rest })
  | [] => (Config.freeOrder s.orderIndex, { s with orderIndex := s.orderIndex + 1 })

/-! ## Readings of the state -/

/-- The clock is set: RUN or HOLDOVER (R42). -/
def clockSet (s : State) : Bool := decide (s.clock.state ≠ .unset)

/-- The profile number active for a section at the hazard level as it stands (R93). -/
def activeProfile (n : SectionNo) (s : State) : ProfileNo := profileAt s.sections[n].words s.hazard

/-- The words of a section's active profile (R93). -/
def activeWords (n : SectionNo) (s : State) : Vector Word 12 := s.profiles[activeProfile n s].words

/-- The states in which a section evaluates (5.5). -/
def SectionMode.evaluates : SectionMode → Bool
  | .holdoff | .watch | .blind => true
  | .off | .arming | .deenergized | .latched => false

/-- The action record is in flight: PENDING or SENT (R69, R156, R187). -/
def inFlight (n : SectionNo) (s : State) : Bool :=
  decide (s.actions[n].state = .pending ∨ s.actions[n].state = .sent)

/-- Some action record is in flight (R156, R187). -/
def anyInFlight (s : State) : Bool := allSections.any (fun n => inFlight n s)

/-- A section qualifies for sending (R136). -/
def qualifies (n : SectionNo) (s : State) : Bool :=
  decide (s.mode = .active) && permitOn s.sections[n].words

/-- The slot whose VALID entry holds a stream identifier (R18). -/
def lookup (stream : BitVec 16) (s : State) : Option SlotNo :=
  allSlots.find? (fun m => decide (s.slots[m].entry = .valid) && decide (streamId s.slots[m].words = stream))

/-- RESET_N is low: the part does nothing (R189). -/
def resetLow (s : State) : Bool := decide (s.boot = .resetLow)

/-- An event as the part takes it: nothing happens while RESET_N is low (R14, R189). -/
def whenRunning (f : State → State) (s : State) : Host.Outcome State Fault Refusal :=
  .next (if resetLow s then s else f s)

/-- TAG as it stands on its pins, which a command that reads it brings (R7, log entry 13). -/
def readTag (tag : BitVec 10) (s : State) : State := { s with pins := { s.pins with tag := tag } }

/-! ## Handing a record to the report unit (R170, R171, R173) -/

/-- The epoch a record queued now carries (R170). -/
def recordEpoch (s : State) : Option Epoch := if clockSet s then some s.clock.c else none

/-- The owed mark of an originator set (R173). -/
def ReportUnit.setOwed (o : Originator) (r : ReportUnit) : ReportUnit :=
  match o with
  | .device => { r with owedDevice := true }
  | .sec n => { r with owedSections := r.owedSections.set n true }
  | .slot m => { r with owedSlots := r.owedSlots.set m true }

/-- A record joins the tail of the queue, or sets its originator's owed mark when the queue is full (R173). -/
def ReportUnit.hand (x : ReportRecord) (r : ReportUnit) : ReportUnit :=
  if r.queue.length < Config.reportCapacity then { r with queue := r.queue ++ [x] } else r.setOwed x.origin

/-- A block hands a record to the report unit (R171). -/
def queueReport (o : Originator) (d : Detail) (s : State) : State :=
  s.setReport (s.report.hand { origin := o, epoch := recordEpoch s, detail := d })

end Sys2Proof.Machine
end

