-- ==== Sys2Proof/Machine/Flags.lean ====
section
/-! DEFINITION. The flags: sticky error flags of a slot (R23), the fields of a condition set by kind (7.3), the owed
marks (R175), and the two alarm lines (R133). -/

namespace Sys2Proof.Machine

/-! ## Sticky error flags (R23) -/

def ErrorFlags.get (f : ErrorFlags) : ErrorKind → Bool
  | .descriptorMismatch => f.descriptorMismatch
  | .channelShort => f.channelShort
  | .early => f.early
  | .late => f.late
  | .duplicate => f.duplicate
  | .sensorFault => f.sensorFault

/-- The flag of a kind set; the others as they stand (R23). -/
def ErrorFlags.raise (f : ErrorFlags) : ErrorKind → ErrorFlags
  | .descriptorMismatch => { f with descriptorMismatch := true }
  | .channelShort => { f with channelShort := true }
  | .early => { f with early := true }
  | .late => { f with late := true }
  | .duplicate => { f with duplicate := true }
  | .sensorFault => { f with sensorFault := true }

/-! ## Condition sets by kind (7.3) -/

def ConditionSet.get (c : ConditionSet) : Kind → Option Raised
  | .opened => c.opened
  | .downed => c.downed
  | .sightLoss => c.sightLoss
  | .memberResync => c.memberResync
  | .actionFailed => c.actionFailed
  | .backupCalled => c.backupCalled

/-- What a kind holds replaced, its phase set with it; the four kinds without a phase set keep none (7.3). -/
def ConditionSet.put (c : ConditionSet) (k : Kind) (r : Option Raised) (phases : PhaseSet) : ConditionSet :=
  match k with
  | .opened => { c with opened := r, openPhases := phases }
  | .downed => { c with downed := r, downedPhases := phases }
  | .sightLoss => { c with sightLoss := r }
  | .memberResync => { c with memberResync := r }
  | .actionFailed => { c with actionFailed := r }
  | .backupCalled => { c with backupCalled := r }

/-- The phase set of a kind; NONE, the empty set, for the four kinds without one (R129). -/
def ConditionSet.phases (c : ConditionSet) : Kind → PhaseSet
  | .opened => c.openPhases
  | .downed => c.downedPhases
  | .sightLoss | .memberResync | .actionFailed | .backupCalled => noPhases

/-! ## Owed marks (R175) -/

def ReportUnit.owed (r : ReportUnit) : Originator → Bool
  | .device => r.owedDevice
  | .sec n => r.owedSections[n]
  | .slot m => r.owedSlots[m]

/-- The owed mark of an originator cleared (R175). -/
def ReportUnit.clearOwed (r : ReportUnit) : Originator → ReportUnit
  | .device => { r with owedDevice := false }
  | .sec n => { r with owedSections := r.owedSections.set n false }
  | .slot m => { r with owedSlots := r.owedSlots.set m false }

/-- The 97 originators in the fixed order of the walk (R175). -/
def allOriginators : List Originator :=
  .device :: allSections.map Originator.sec ++ allSlots.map Originator.slot

/-- The number of owed marks set (R178). -/
def owedCount (r : ReportUnit) : Nat := (allOriginators.filter r.owed).length

/-! ## The alarm lines (R133) -/

/-- A section drives the alarm lines: OPEN, DOWNED or ACTION_FAILED is set. -/
def ConditionSet.alarms (c : ConditionSet) : Bool := c.opened.isSome || c.downed.isSome || c.actionFailed.isSome

/-- The level of ALARM_A. -/
def alarmA (s : State) : Bool := allSections.any (fun n => alarmSetA s.settings n && s.conds[n].alarms)

/-- The level of ALARM_B. -/
def alarmB (s : State) : Bool := allSections.any (fun n => alarmSetB s.settings n && s.conds[n].alarms)

end Sys2Proof.Machine
end

