-- ==== Sys2Proof/Machine/Hazard.lean ====
section
/-! DEFINITION. The hazard level (7.2): the request SET_HAZARD, and its falling between two pieces of work of one event
(R111, R119). -/

namespace Sys2Proof.Machine

/-! ## Requests and their answers (11.1) -/

/-- What a request comes to: the new state, the result code and the data of the reply. -/
abbrev Answer := State × (ResultCode × List Byte)

/-- A refusal or an answer that changes nothing and carries no data. -/
def answer (code : ResultCode) (s : State) : Answer := (s, (code, []))

/-! ## SET_HAZARD (R119) -/

def setHazardCode : Byte := 3

/-- SET_HAZARD (R119). -/
def requestSetHazard (level : Byte) (s : State) : Answer :=
  if 1 < level.toNat then answer .badValue s
  else
    let new : Hazard := if level = 1 then .elevated else .normal
    if new = s.hazard then answer .ok s
    else answer .ok (queueReport .device (.hazardChange s.hazard new) { s with hazard := new })

/-! ## A change of level that falls within an event (R111) -/

/-- A result added to an execution. -/
def MgmtExec.result (e : MgmtExec) (q : Byte) (code : ResultCode) (data : List Byte) : MgmtExec :=
  { e with results := e.results ++ [{ request := q, code := code, data := data }] }

/-- The SET_HAZARD request that the frame under execution has come to: its level, and the execution with the request
taken off. None while the frame is answered NOT_READY, or stands at another request or in a WRITE (R180). -/
def MgmtExec.hazardNext (e : MgmtExec) : Option (Byte × MgmtExec) :=
  match e.writing, e.todo with
  | none, q :: rest =>
    match q.params with
    | [level] => if q.code = setHazardCode ∧ e.mode ≠ .starting then some (level, { e with todo := rest }) else none
    | _ => none
  | _, _ => none

/-- The level and execution of the SET_HAZARD request that a frame under execution has come to. -/
def hazardWaiting (s : State) : Option (Byte × MgmtExec) := s.executing.bind MgmtExec.hazardNext

/-- The SET_HAZARD request that the frame under execution has come to is executed. -/
def takeHazard (level : Byte) (e : MgmtExec) (s : State) : State :=
  let a := requestSetHazard level s
  { a.1 with executing := some (e.result setHazardCode a.2.1 a.2.2) }

/-- A moment between two pieces of work of one event at which the hazard level is read: a SET_HAZARD request that the
management unit has come to may be taken here or later, and a choice of order says which (R111, R119, log entry 1). -/
def hazardMoment (s : State) : State :=
  match hazardWaiting s with
  | none => s
  | some (level, e) =>
    let (code, s) := nextOrder s
    if code % 2 = 1 then takeHazard level e s else s

end Sys2Proof.Machine
end

