-- ==== Sys2Proof/Machine/Captures.lean ====
section
/-! DEFINITION. The capture unit (chapter 9): starting, filling and freezing the four capture buffers, and releasing
them. -/

namespace Sys2Proof.Machine

/-- The buffer FILLING for a section (R160: at most one). -/
def fillingFor (n : SectionNo) (s : State) : Option CaptureNo :=
  allCaptures.find? (fun i => decide (s.captures[i].state = .filling) && decide (s.captures[i].sec = n))

/-- The FREE buffer of the lowest number (R161). -/
def firstFree (s : State) : Option CaptureNo := allCaptures.find? (fun i => decide (s.captures[i].state = .free))

/-- A buffer freezes, full or short, and CAPTURE_FROZEN is queued (R163, R164, R165). -/
def freezeCapture (i : CaptureNo) (b : Capture) (short : Bool) (s : State) : State :=
  queueReport (.sec b.sec) (.captureFrozen i b.triggerEpoch b.trigger short b.pre b.post)
    (s.setCapture i { b with state := .frozen, short := short })

/-- An evaluation record is added to the section's FILLING buffer; the eighth post-trigger record freezes it (R163). -/
def captureAdd (n : SectionNo) (r : EvalRecord) (s : State) : State :=
  match fillingFor n s with
  | none => s
  | some i =>
    let b := { s.captures[i] with records := s.captures[i].records ++ [r], post := s.captures[i].post + 1 }
    if Config.postTriggerCapacity ≤ b.post then freezeCapture i b false s else s.setCapture i b

/-- A pickup starts a capture in the FREE buffer of the lowest number (R161), or sets the section's capture-missed mark
when no buffer is FREE (R162). With a FILLING buffer for the section it does neither (R161). -/
def capturePickup (n : SectionNo) (t : Trigger) (p : ProfileNo) (history : List EvalRecord) (r : EvalRecord)
    (s : State) : State :=
  if (fillingFor n s).isSome then s
  else
    match firstFree s with
    | none => s.setMissed n true
    | some i =>
      s.setCapture i
        { state := .filling, sec := n, triggerEpoch := r.epoch, trigger := t, profile := p, short := false
          pre := history.length, post := 1, records := history ++ [r] }

/-- The section evaluator hands over an evaluation record: first the record is added, then the pickup is tested
(9.2). -/
def captureHandOver (n : SectionNo) (r : EvalRecord) (pickup : Option Trigger) (p : ProfileNo)
    (history : List EvalRecord) (s : State) : State :=
  match pickup with
  | none => captureAdd n r s
  | some t => capturePickup n t p history r (captureAdd n r s)

/-- A FILLING buffer of a section that leaves HOLDOFF, WATCH or BLIND freezes short (R164). -/
def freezeShort (n : SectionNo) (s : State) : State :=
  match fillingFor n s with
  | none => s
  | some i => freezeCapture i s.captures[i] true s

/-- Every capture-missed mark cleared (R167). -/
def clearMissed (s : State) : State := { s with missed := Vector.replicate 32 false }

end Sys2Proof.Machine
end

