-- ==== Sys2Proof/Machine/Conditions.lean ====
section
/-! DEFINITION. The condition unit (chapter 7) and the part of the action unit that it asks: the creation of an action
record (R137), its release (R139), its dropping (R141) and its retirement (R158). -/

namespace Sys2Proof.Machine

/-! ## Action records: creation, release, dropping, retirement -/

/-- Why a record is HELD rather than PENDING (R137). -/
def heldReason (n : SectionNo) (s : State) : HeldReason :=
  if permitOn s.sections[n].words then .notActive else .permitOff

/-- The state a record takes at its creation: PENDING when the section qualifies, HELD otherwise (R137, R152). -/
def createdState (n : SectionNo) (s : State) : ActionState := if qualifies n s then .pending else .held

/-- ACTION_HELD, queued when a record has become HELD (R137, R152). -/
def reportHeld (n : SectionNo) (s : State) : State :=
  if s.actions[n].state = .held then
    queueReport (.sec n) (.actionHeld s.actions[n].cause s.actions[n].target (heldReason n s)) s
  else s

/-- The condition unit asks for an action (R137): taken when the section's record is NONE, ignored otherwise. -/
def createAction (n : SectionNo) (cause : Cause) (s : State) : State :=
  match switchSlot s.sections[n].words with
  | none => s
  | some target =>
    if s.actions[n].state = .noAction then
      reportHeld n (s.modAction n (fun _ =>
        { state := createdState n s, cause := cause, target := target, attempts := 0, firstSent := none
          lastSent := none, origins := [] }))
    else s

/-- A HELD record whose section qualifies becomes PENDING (R139). -/
def releaseHeld (n : SectionNo) (s : State) : State :=
  if s.actions[n].state = .held ∧ qualifies n s then s.modAction n (fun a => { a with state := .pending }) else s

/-- Every HELD record whose section qualifies becomes PENDING (R139). -/
def releaseAllHeld (s : State) : State := allSections.foldl (fun s n => releaseHeld n s) s

/-- A section leaves every origin list in which it stands (R158). -/
def leaveOriginLists (n : SectionNo) (s : State) : State :=
  { s with actions := s.actions.map (fun a => { a with origins := a.origins.filter (fun o => decide (o ≠ n)) }) }

/-- A record returns to NONE and its section leaves every origin list (R158). -/
def retireAction (n : SectionNo) (s : State) : State :=
  leaveOriginLists n (s.modAction n (fun _ => ActionRecord.none))

/-- A record is dropped: ACTION_CANCELLED, then NONE (R141). -/
def dropAction (n : SectionNo) (why : DropReason) (s : State) : State :=
  retireAction n (queueReport (.sec n) (.actionCancelled s.actions[n].cause why s.actions[n].attempts) s)

/-- The action unit is told that a live kind has cleared: a HELD record of that cause is dropped (R130, R141). -/
def tellLiveCleared (n : SectionNo) (k : Kind) (why : DropReason) (s : State) : State :=
  if s.actions[n].state = .held ∧ s.actions[n].cause.kind = some k then dropAction n why s else s

/-- The action unit is told of a latched kind (R131, R132): a HELD record of that cause, or a PENDING one with no
attempts made, is dropped (R141). -/
def tellLatchedCleared (n : SectionNo) (why : DropReason) (s : State) (k : Kind) : State :=
  if (s.actions[n].state = .held ∨ (s.actions[n].state = .pending ∧ s.actions[n].attempts = 0)) ∧
      s.actions[n].cause.kind = some k then
    dropAction n why s
  else s

/-! ## Rising kinds (R122, R127, R128) -/

/-- The response a rising kind is given from a profile and the section entry (R127). -/
def chooseResponse (n : SectionNo) (k : Kind) (p : ProfileNo) (s : State) : Response :=
  if Prof.isolates s.profiles[p].words k ∧ (switchSlot s.sections[n].words).isSome then .isolate
  else if Prof.reports s.profiles[p].words k then .report
  else .record

/-- CONDITION_SET for a kind with its response, queued unless the response is RECORD (R127). -/
def reportRaised (n : SectionNo) (k : Kind) (phases : PhaseSet) (r : Raised) (s : State) : State :=
  if r.response = .record then s else queueReport (.sec n) (.conditionSet k phases r false) s

/-- A kind with its response ISOLATE asks for an action (R128). -/
def askAction (n : SectionNo) (k : Kind) (r : Raised) (s : State) : State :=
  match r.response, k.cause with
  | .isolate, some cause => createAction n cause s
  | _, _ => s

/-- A request to set a kind: dropped for a section whose entry is not VALID, nothing when the kind is already set, and
otherwise the kind rises with the response chosen from profile `p` (R122, R127, R128). -/
def raiseKind (n : SectionNo) (k : Kind) (phases : PhaseSet) (p : ProfileNo) (s : State) : State :=
  if s.sections[n].entry = .valid ∧ (s.conds[n].get k).isNone then
    let r : Raised := { response := chooseResponse n k p s, profile := p, level := s.hazard }
    askAction n k r (reportRaised n k phases r (s.modConds n (fun c => c.put k (some r) phases)))
  else s

/-- The confirmed phases of one kind reach the condition unit (R123). -/
def confirmKind (n : SectionNo) (k : Kind) (phases : PhaseSet) (p : ProfileNo) (s : State) : State :=
  if phases.some then
    match s.conds[n].get k with
    | none => raiseKind n k phases p s
    | some r =>
      let joined := (s.conds[n].phases k).union phases
      if joined = s.conds[n].phases k then s
      else queueReport (.sec n) (.conditionSet k joined r true) (s.modConds n (fun c => c.put k (some r) joined))
  else s

/-! ## Clearing kinds (R129 to R132) -/

/-- A kind leaves the set, and CONDITION_CLEARED is queued when its response was not RECORD (R129). -/
def clearKind (n : SectionNo) (cause : ClearCause) (s : State) (k : Kind) : State :=
  match s.conds[n].get k with
  | none => s
  | some r =>
    let cleared := s.modConds n (fun c => c.put k none noPhases)
    if r.response = .record then cleared
    else queueReport (.sec n) (.conditionCleared k (s.conds[n].phases k) cause) cleared

/-- A live kind clears by itself: it leaves the set and the action unit is told (R130). -/
def clearLive (n : SectionNo) (cause : ClearCause) (why : DropReason) (s : State) (k : Kind) : State :=
  if (s.conds[n].get k).isSome then tellLiveCleared n k why (clearKind n cause s k) else s

end Sys2Proof.Machine
end

