-- ==== Sys2Proof/Machine/Detection.lean ====
section
/-! DEFINITION. The detection arithmetic (chapter 6): the six stages for one phase, exactly, on integers. -/

namespace Sys2Proof.Machine

/-! ## Magnitudes (R95, 6.7) -/

/-- The square root by bits, highest first: `r` is the part found so far, `b` the bits still to be tried. -/
def isqrtFrom : Nat → Nat → Nat → Nat
  | 0, r, _ => r
  | b + 1, r, x => isqrtFrom b (if (r + 2 ^ b) * (r + 2 ^ b) ≤ x then r + 2 ^ b else r) x

/-- The floor of the square root of a number below 2³². -/
def isqrt (x : Nat) : Nat := isqrtFrom 16 0 x

/-- mag(x, y): the floor of the square root of x² + y² (R95). -/
def mag (p : Phasor) : Nat := isqrt (p.re * p.re + p.im * p.im).toNat

/-! ## Stages 1 and 2 (R96, R97) -/

/-- A component saturated to −32767 to +32767 (R96). -/
def saturate (x : Int) : Int := max (-32767) (min 32767 x)

/-- The difference of the current entering and the currents leaving, each component saturated (R96). -/
def difference (u : Phasor) (downs : List Phasor) : Phasor :=
  { re := saturate (u.re - (downs.map Phasor.re).sum), im := saturate (u.im - (downs.map Phasor.im).sum) }

/-- The restrained threshold T (R97). -/
def threshold (w : Vector Word 12) (allowance umag : Nat) : Nat :=
  Prof.pickup w + allowance + Prof.slope w * umag / 64

/-! ## Stage 3 (R98) -/

/-- The accumulator after one epoch (R98). -/
def accumulate (w : Vector Word 12) (acc dmag t : Nat) : Nat :=
  if t < dmag then min 65535 (acc + min (dmag - t) (Prof.excessCap w)) else acc - Prof.leak w

/-! ## Stage 4 (R99 to R101) -/

/-- The distance between two magnitudes. -/
def distance (x y : Nat) : Nat := (x - y) + (y - x)

/-- The epoch is IRREGULAR (R99). -/
def irregular (w : Vector Word 12) (prev : Option Nat) (dmag : Nat) : Bool :=
  match prev with
  | none => false
  | some q => decide (Prof.burst w ≤ distance dmag q)

/-- Oldest outcomes dropped until the window holds no more than `len` (R101). -/
def trimWindow (len : Nat) (window : List OutcomeAt) : List OutcomeAt := window.drop (window.length - len)

/-- An outcome appended, entries for the same or a later epoch removed first, and the window cut to `len` (R100). An entry
exactly 32768 epochs away, whose serial difference is −32768 either way (6.3), is removed too (DESIGN CHOICE, log entry
31). -/
def appendOutcome (len : Nat) (o : OutcomeAt) (window : List OutcomeAt) : List OutcomeAt :=
  trimWindow len (window.filter (fun x => decide (0 < serialDiff x.epoch o.epoch)) ++ [o])

/-- The number of IRREGULAR outcomes in a window (R100). -/
def irrCount (window : List OutcomeAt) : Nat := (window.filter (fun x => x.irregular)).length

/-! ## Stage 5 (R102) -/

/-- The downed element's two tests. -/
def downedTest (w : Vector Word 12) (acc irr : Nat) : Bool :=
  decide (Prof.tripLevel w ≤ acc) && decide (Prof.irrRequired w ≤ irr)

/-! ## Stage 6 (R103 to R105) -/

/-- The larger of the other two phases' upstream magnitudes, of those that are measured (R103). -/
def largerOf : Option Nat → Option Nat → Option Nat
  | none, y => y
  | some x, none => some x
  | some x, some y => some (max x y)

/-- The open condition (R103). A test whose voltage is not mapped is skipped. -/
def openCondition (w : Vector Word 12) (umag : Nat) (others : Option Nat) (vFar vUp : Option Phasor) : Bool :=
  decide (umag < Prof.openFloor w) &&
  (match others with
   | none => false
   | some x => decide (Prof.loadFloor w ≤ x)) &&
  (match vFar with
   | none => true
   | some v => decide (mag v < Prof.vCollapse w)) &&
  (match vUp with
   | none => true
   | some v => decide (Prof.vHealthy w ≤ mag v))

/-- The open count moved by the open condition (R104). -/
def moveOpenCount (holds : Bool) (count : Nat) : Nat := if holds then saturatingSucc count else 0

/-! ## One phase at one complete evaluation (R94, R106, R107, R109) -/

/-- What one phase reads at an evaluation (R94): U, the downstream phasors (`none` where a record lacks I_p), the
voltages where they are mapped, and the larger other upstream magnitude. -/
structure PhaseInputs where
  upstream : Option Phasor
  downstream : List (Option Phasor)
  others : Option Nat
  vFar : Option Phasor
  vUp : Option Phasor
  allowance : Nat
  deriving DecidableEq, Repr

/-- What one phase gives: its new state, its values in the evaluation record, and what it confirms. -/
structure PhaseResult where
  state : PhaseState
  values : PhaseValues
  downed : Bool
  opened : Bool
  deriving DecidableEq, Repr

/-- The open count after stage 6: 0 is kept in HOLDOFF (R106). -/
def stageSix (w : Vector Word 12) (hold : Bool) (i : PhaseInputs) (umag count : Nat) : Nat :=
  if hold then count else moveOpenCount (openCondition w umag i.others i.vFar i.vUp) count

/-- OPEN is confirmed at an evaluation made in WATCH (R105). -/
def openTest (w : Vector Word 12) (hold : Bool) (count : Nat) : Bool := !hold && decide (Prof.openPersist w ≤ count)

/-- The unmeasured case of R94: everything held, the previous difference absent. -/
def phaseUnmeasured (st : PhaseState) : PhaseResult :=
  { state := { st with prev := none }
    values := { umag := none, dmag := none, threshold := none, acc := st.acc, openCount := st.openCount }
    downed := false, opened := false }

/-- The feeder-end case of R94: stages 1, 2 and 6. -/
def phaseFeederEnd (w : Vector Word 12) (hold : Bool) (i : PhaseInputs) (u : Phasor) (st : PhaseState) : PhaseResult :=
  let umag := mag u
  let count := stageSix w hold i umag st.openCount
  { state := { st with openCount := count }
    values := { umag := some umag, dmag := some umag, threshold := some (threshold w i.allowance umag), acc := st.acc
                openCount := count }
    downed := false, opened := openTest w hold count }

/-- The difference-not-formed case of R94: umag and stage 6, the previous difference absent. -/
def phaseNotFormed (w : Vector Word 12) (hold : Bool) (i : PhaseInputs) (u : Phasor) (st : PhaseState) : PhaseResult :=
  let umag := mag u
  let count := stageSix w hold i umag st.openCount
  { state := { st with openCount := count, prev := none }
    values := { umag := some umag, dmag := none, threshold := none, acc := st.acc, openCount := count }
    downed := false, opened := openTest w hold count }

/-- The full case of R94: stages 1 to 6, stage 3 not applied and stages 5 and 6 deciding nothing in HOLDOFF (R106). -/
def phaseFull (w : Vector Word 12) (hold : Bool) (e : Epoch) (i : PhaseInputs) (u : Phasor) (downs : List Phasor)
    (st : PhaseState) : PhaseResult :=
  let umag := mag u
  let dmag := mag (difference u downs)
  let t := threshold w i.allowance umag
  let acc := if hold then st.acc else accumulate w st.acc dmag t
  let window := appendOutcome (Prof.windowLen w) { epoch := e, irregular := irregular w st.prev dmag } st.window
  let count := stageSix w hold i umag st.openCount
  { state := { acc := acc, openCount := count, window := window, prev := some dmag }
    values := { umag := some umag, dmag := some dmag, threshold := some t, acc := acc, openCount := count }
    downed := !hold && downedTest w acc (irrCount window), opened := openTest w hold count }

/-- The stages of one phase, by the cases of R94, after the trim of R101. -/
def evalPhase (w : Vector Word 12) (hold : Bool) (e : Epoch) (i : PhaseInputs) (before : PhaseState) : PhaseResult :=
  let st := { before with window := trimWindow (Prof.windowLen w) before.window }
  match i.upstream with
  | none => phaseUnmeasured st
  | some u =>
    if i.downstream.isEmpty then phaseFeederEnd w hold i u st
    else if i.downstream.all Option.isSome then phaseFull w hold e i u (i.downstream.filterMap id) st
    else phaseNotFormed w hold i u st

/-- The accumulator of a phase rose from 0 (R109). -/
def accRose (before : PhaseState) (r : PhaseResult) : Bool := decide (before.acc = 0) && decide (0 < r.state.acc)

/-- The open count of a phase rose from 0 (R109). -/
def openRose (before : PhaseState) (r : PhaseResult) : Bool :=
  decide (before.openCount = 0) && decide (0 < r.state.openCount)

/-- The pickup of an evaluation and its trigger kind (R109); none in HOLDOFF (R106). -/
def pickupOf (hold : Bool) (before : PerPhase PhaseState) (r : PerPhase PhaseResult) : Option Trigger :=
  if hold then none
  else if allPhases.any (fun p => accRose (before.get p) (r.get p)) then some .downedPickup
  else if allPhases.any (fun p => openRose (before.get p) (r.get p)) then some .openPickup
  else none

end Sys2Proof.Machine
end

