-- ==== Sys2Proof/Machine/Sections.lean ====
section
/-! DEFINITION. The section evaluator (chapter 5): completeness, evaluations, the section state machine, and the
section's part of commits and of the entry to LOADING. -/

namespace Sys2Proof.Machine

/-! ## Rings as read by a section (R51, R52, R71) -/

/-- The record a ring holds for an epoch (R51). -/
def ringRecord (ring : Vector (Option SlotRecord) 16) (e : Epoch) : Option SlotRecord :=
  match ring[Fin.ofNat 16 e.toNat] with
  | none => none
  | some r => if r.epoch = e then some r else none

/-- A record is usable: not faulty, no quantity ABSENT (R52). -/
def SlotRecord.usable (r : SlotRecord) : Bool :=
  !r.faulty && allQuantities.all (fun q => decide (r.get q ≠ .absent))

/-- A slot holds a usable record for an epoch (R52). -/
def holdsUsable (m : SlotNo) (e : Epoch) (s : State) : Bool :=
  match ringRecord s.slots[m].ring e with
  | none => false
  | some r => r.usable

/-- An epoch is complete for a section (R71). -/
def epochComplete (n : SectionNo) (e : Epoch) (s : State) : Bool :=
  (members s.sections[n].words).all (fun m => holdsUsable m e s)

/-- The phasor of a quantity in a slot's record for an epoch, when the record carries it (R94). -/
def phasorAt (m : SlotNo) (e : Epoch) (q : Quantity) (s : State) : Option Phasor :=
  match ringRecord s.slots[m].ring e with
  | none => none
  | some r =>
    match r.get q with
    | .phasor p => some p
    | .unmapped | .absent => none

/-- umag of a phase, none when the phase is unmeasured (R94, R96). -/
def umagAt (n : SectionNo) (e : Epoch) (p : Phase) (s : State) : Option Nat :=
  (phasorAt (upstreamSlot s.sections[n].words) e (currentOf p) s).map mag

/-- The inputs of one phase at a complete evaluation (R94). -/
def phaseInputs (n : SectionNo) (e : Epoch) (p : Phase) (s : State) : PhaseInputs :=
  let w := s.sections[n].words
  { upstream := phasorAt (upstreamSlot w) e (currentOf p) s
    downstream := (downstreamSlots w).map (fun m => phasorAt m e (currentOf p) s)
    others := largerOf (umagAt n e (otherPhases p).1 s) (umagAt n e (otherPhases p).2 s)
    vFar := (voltageSlot w).bind (fun m => phasorAt m e (voltageOf p) s)
    vUp := phasorAt (upstreamSlot w) e (voltageOf p) s
    allowance := loadAllowance w p }

/-! ## Moves of the section state (R83, R89) -/

/-- A section takes a new state and reports SECTION_STATE (R89). -/
def moveSection (n : SectionNo) (entered : SectionMode) (cause : SectionCause) (s : State) : State :=
  queueReport (.sec n) (.sectionState s.sections[n].mode entered cause s.sections[n].next)
    (s.modSection n (fun x => { x with mode := entered }))

/-- The leaving rule: live conditions cleared, a FILLING capture frozen short (R83). `why` is the reason an action
dropped by it carries (R141). -/
def leaveService (n : SectionNo) (why : DropReason) (s : State) : State :=
  freezeShort n (liveKinds.foldl (clearLive n .leftService why) s)

/-- A move out of HOLDOFF, WATCH or BLIND, the leaving rule first; from another state the move alone (R80, R83). -/
def leaveTo (n : SectionNo) (entered : SectionMode) (cause : SectionCause) (s : State) : State :=
  moveSection n entered cause
    (if s.sections[n].mode.evaluates then leaveService n .liveCleared s else s)

/-- The section's own record is PENDING, SENT, CONFIRMED or FAILED, or the section stands in the origin list of a
CONFIRMED record (R79). -/
def latchesOnOpen (n : SectionNo) (s : State) : Bool :=
  decide (s.actions[n].state ≠ .noAction ∧ s.actions[n].state ≠ .held) ||
  allSections.any (fun b => decide (s.actions[b].state = .confirmed) && decide (n ∈ s.actions[b].origins))

/-- An OPEN report of the section's switch slot (R79). -/
def sectionOnOpen (n : SectionNo) (s : State) : State :=
  if s.sections[n].mode.evaluates then
    leaveTo n (if latchesOnOpen n s then .latched else .deenergized) .switchOpen s
  else s

/-- A latch notice (R80). -/
def latchNotice (n : SectionNo) (s : State) : State :=
  if s.sections[n].mode.evaluates ∨ s.sections[n].mode = .deenergized then leaveTo n .latched .latch s else s

/-- The clearing at every entry to ARMING (R81). -/
def SectionState.clearedForArming (x : SectionState) : SectionState :=
  { x with phases := startPhases, incomplete := 0, holdoff := 0 }

/-- A CLOSED report of the section's switch slot (R81). -/
def sectionOnClosed (n : SectionNo) (s : State) : State :=
  if s.sections[n].mode = .deenergized then
    moveSection n .arming .switchClosed (s.modSection n SectionState.clearedForArming)
  else s

/-- The hold-off count at 0 takes a section from HOLDOFF to WATCH (R75, R76). -/
def endHoldoff (n : SectionNo) (s : State) : State :=
  if s.sections[n].mode = .holdoff ∧ s.sections[n].holdoff = 0 then moveSection n .watch .holdoffDone s else s

/-- An evaluation in HOLDOFF lowers the hold-off count, and at 0 the section goes to WATCH (R76). -/
def lowerHoldoff (n : SectionNo) (s : State) : State :=
  endHoldoff n (s.modSection n (fun x => { x with holdoff := x.holdoff - 1 }))

/-! ## Arming (R74, R75) -/

/-- A slot's entry is VALID and its stream LOCKED. -/
def slotLocked (m : SlotNo) (s : State) : Bool :=
  decide (s.slots[m].entry = .valid) && decide (s.slots[m].stream = .locked)

/-- What the arming test asks of the members and the switch slot (R74). -/
def armingHolds (n : SectionNo) (s : State) : Bool :=
  (members s.sections[n].words).all (fun m => slotLocked m s) &&
  (match switchSlot s.sections[n].words with
   | none => true
   | some m => slotLocked m s && decide (s.slots[m].position = .closed))

/-- A record CONFIRMED or FAILED is retired as the section enters HOLDOFF (R158). -/
def retireAtArming (n : SectionNo) (s : State) : State :=
  if s.actions[n].state = .confirmed ∨ s.actions[n].state = .failed then retireAction n s else s

/-- A section arms (R75). -/
def armSection (n : SectionNo) (s : State) : State :=
  let hold := Prof.holdoffEpochs (activeWords n s)
  endHoldoff n
    (moveSection n .holdoff .armed
      (retireAtArming n
        (s.modSection n (fun x =>
          { x with next := s.clock.c, history := [], incomplete := 0, holdoff := hold
                   phases := x.phases.map (fun p => { p with prev := none }) }))))

/-- The arming test of a section at a tick (R74). -/
def armingTest (n : SectionNo) (s : State) : State :=
  if s.sections[n].mode = .arming ∧ armingHolds n s then armSection n s else s

/-! ## Evaluations (R76 to R78, R84 to R88, R106 to R108) -/

/-- The record added at the newest end of a history ring, the oldest dropped first when it holds 8 (R88). -/
def pushHistory (r : EvalRecord) (h : List EvalRecord) : List EvalRecord :=
  (if Config.historyCapacity ≤ h.length then h.drop (h.length + 1 - Config.historyCapacity) else h) ++ [r]

/-- The first complete evaluation in BLIND first takes the section to WATCH and clears SIGHT_LOSS (R78). -/
def regainSight (n : SectionNo) (s : State) : State :=
  if s.sections[n].mode = .blind then
    clearLive n .sightRegained .liveCleared (moveSection n .watch .sightRegained s) .sightLoss
  else s

/-- The results of the three phases at a complete evaluation of the section's next epoch (R87, R93). -/
def phaseResults (n : SectionNo) (s : State) : PerPhase PhaseResult :=
  let x := s.sections[n]
  perPhase (fun p =>
    evalPhase (activeWords n s) (decide (x.mode = .holdoff)) x.next (phaseInputs n x.next p s) (x.phases.get p))

/-- The results handed on in the order of R87: the capture unit, the history ring, the condition unit. -/
def handOnComplete (n : SectionNo) (r : PerPhase PhaseResult) (s : State) : State :=
  let x := s.sections[n]
  let hold := decide (x.mode = .holdoff)
  let p := activeProfile n s
  let record : EvalRecord := { epoch := x.next, phases := some (r.map PhaseResult.values) }
  let s := s.modSection n (fun x => { x with incomplete := 0, phases := r.map PhaseResult.state })
  let s := captureHandOver n record (pickupOf hold x.phases r) p x.history s
  let s := s.modSection n (fun x => { x with history := pushHistory record x.history })
  if hold then s
  else confirmKind n .opened (r.map PhaseResult.opened) p (confirmKind n .downed (r.map PhaseResult.downed) p s)

/-- The next epoch advances by 1 at the end of an evaluation (R84). -/
def advanceNext (n : SectionNo) (s : State) : State := s.modSection n (fun x => { x with next := x.next + 1 })

/-- A complete evaluation of the section's next epoch (R87). -/
def evaluateComplete (n : SectionNo) (s : State) : State :=
  let s := regainSight n s
  let s' := advanceNext n (handOnComplete n (phaseResults n s) s)
  if s.sections[n].mode = .holdoff then lowerHoldoff n s' else s'

/-- The part of an INCOMPLETE evaluation that changes the phases: the previous difference absent, the window trimmed
(R86, R101). -/
def PhaseState.afterIncomplete (len : Nat) (p : PhaseState) : PhaseState :=
  { p with prev := none, window := trimWindow len p.window }

/-- A section in WATCH whose consecutive-incomplete count has reached blind_after goes to BLIND, and SIGHT_LOSS rises
(R77, R124). -/
def blindTest (n : SectionNo) (p : ProfileNo) (s : State) : State :=
  if Prof.blindAfter s.profiles[p].words ≤ s.sections[n].incomplete then
    raiseKind n .sightLoss noPhases p (moveSection n .blind .sightLost s)
  else s

/-- An INCOMPLETE evaluation of the section's next epoch (R86). -/
def evaluateIncomplete (n : SectionNo) (s : State) : State :=
  let x := s.sections[n]
  let p := activeProfile n s
  let record : EvalRecord := { epoch := x.next, phases := none }
  let s := s.modSection n (fun x =>
    { x with incomplete := saturatingSucc x.incomplete
             phases := x.phases.map (PhaseState.afterIncomplete (Prof.windowLen s.profiles[p].words)) })
  let s := captureHandOver n record none p x.history s
  let s := advanceNext n (s.modSection n (fun x => { x with history := pushHistory record x.history }))
  match x.mode with
  | .holdoff => lowerHoldoff n s
  | .watch => blindTest n p s
  | .off | .arming | .blind | .deenergized | .latched => s

/-- One evaluation of a run: a section that evaluates makes a complete evaluation of its next epoch when that epoch is
complete, and does nothing more when it is not (R85). -/
def evaluateNext (n : SectionNo) (s : State) : State :=
  if s.sections[n].mode.evaluates ∧ epochComplete n s.sections[n].next s then evaluateComplete n s else s

/-- The forced evaluation of a section at the closure of epoch X (R57, R86). -/
def forcedEvaluation (x : Epoch) (n : SectionNo) (s : State) : State :=
  if s.sections[n].mode.evaluates ∧ atOrBefore s.sections[n].next x then
    if epochComplete n s.sections[n].next s then evaluateComplete n s else evaluateIncomplete n s
  else s

/-! ## The MEMBER_RESYNC test (R125) -/

/-- A member is in ACQUIRING with its ever-locked mark set. -/
def memberResyncing (n : SectionNo) (s : State) : Bool :=
  (members s.sections[n].words).any (fun m =>
    decide (s.slots[m].entry = .valid) && decide (s.slots[m].stream = .acquiring) && s.slots[m].everLocked)

/-- The MEMBER_RESYNC test of a section at a tick (R125). -/
def memberResyncTest (n : SectionNo) (s : State) : State :=
  if s.sections[n].mode.evaluates then
    if memberResyncing n s then raiseKind n .memberResync noPhases (activeProfile n s) s
    else clearLive n .self .liveCleared s .memberResync
  else s

/-! ## Clock step (R46) -/

/-- A section's part of a clock step to N with offset k. -/
def sectionStep (c k : Epoch) (n : SectionNo) (s : State) : State :=
  if s.sections[n].mode.evaluates then
    s.modSection n (fun x =>
      { x with next := c
               phases := x.phases.map (fun p =>
                 { p with prev := none, window := p.window.map (fun o => { o with epoch := o.epoch + k }) }) })
  else s

/-! ## Commit, entry to LOADING, RESTORE (R72, R73, R82, R91) -/

/-- The section evaluator's dynamic state cleared (R72). -/
def SectionState.fresh (m : SectionMode) (x : SectionState) : SectionState :=
  { x with mode := m, next := 0, incomplete := 0, holdoff := 0, history := [], phases := startPhases }

/-- The six kinds in the order of their numbers (12.5). -/
def allKinds : List Kind := [.opened, .downed, .sightLoss, .memberResync, .actionFailed, .backupCalled]

/-- A section entry committed VALID enters ARMING with its state cleared in every block (R72). -/
def startSection (n : SectionNo) (s : State) : State :=
  queueReport (.sec n) (.sectionState s.sections[n].mode .arming .commit 0)
    (retireAction n
      (((s.modSection n (SectionState.fresh .arming)).modConds n (fun _ => ConditionSet.empty)).setMissed n false))

/-- The latched kinds set in a section's condition set. -/
def latchedSet (n : SectionNo) (s : State) : List Kind := latchedKinds.filter (fun k => (s.conds[n].get k).isSome)

/-- The action unit's part of the entry to LOADING, told of the latched kinds that were set: a HELD record is dropped
whatever its cause, a PENDING one without attempts when its cause is among them, and the record is retired (R73, R141,
R158). -/
def loadingAction (n : SectionNo) (kinds : List Kind) (s : State) : State :=
  let s := kinds.foldl (tellLatchedCleared n .loading) s
  if s.actions[n].state = .held then dropAction n .loading s else retireAction n s

/-- A VALID section entry enters LOADING (R73, R132). -/
def stopSection (n : SectionNo) (s : State) : State :=
  let prev := s.sections[n].mode
  let s := if prev.evaluates then leaveService n .loading s else s
  let cleared := (allKinds.foldl (clearKind n .loading) s).modConds n (fun _ => ConditionSet.empty)
  let told := loadingAction n (latchedSet n s) cleared
  queueReport (.sec n) (.sectionState prev .off .loading 0) (told.modSection n (SectionState.fresh .off))

/-- RESTORE of a LATCHED section (R82, R132). -/
def restoreSection (n : SectionNo) (s : State) : State :=
  let set := latchedSet n s
  let s := s.modSection n SectionState.clearedForArming
  let s := set.foldl (clearKind n .restore) s
  let s := set.foldl (tellLatchedCleared n .clearRequest) s
  moveSection n .arming .restore (retireAction n s)

end Sys2Proof.Machine
end

