-- ==== Sys2Proof/Machine/Actions.lean ====
section
/-! DEFINITION. The action unit's own events (chapter 8): confirmation, retry and timeout, failure and escalation, and
the send slot. Creation, release and dropping stand in Machine/Conditions.lean. -/

namespace Sys2Proof.Machine

/-! ## Confirmation (R147, R149) -/

/-- The records an OPEN report of a slot confirms, in ascending section number (R147, R149). -/
def confirmedBy (m : SlotNo) (s : State) : List SectionNo :=
  allSections.filter (fun n => inFlight n s && decide (s.actions[n].target = m))

/-- An OPEN report at the action unit: every record aimed at the reporting slot becomes CONFIRMED, all together (R147,
R149). -/
def confirmRecords (m : SlotNo) (s : State) : State :=
  { s with actions := s.actions.map (fun a =>
      if (a.state = .pending ∨ a.state = .sent) ∧ a.target = m then { a with state := .confirmed } else a) }

/-- The ACTION_CONFIRMED of one record confirmed (R147, R149). -/
def reportConfirmed (n : SectionNo) (s : State) : State :=
  let a := s.actions[n]
  queueReport (.sec n) (.actionConfirmed a.cause a.target a.attempts a.origins.length) s

/-! ## Failure and escalation (R150 to R154) -/

/-- How a walk of the backup chain ends (R151). -/
inductive WalkEnd where
  | joins (b : SectionNo) (hop : Nat)
  | exhausted (reason : ExhaustedReason) (hops : Nat)
  deriving DecidableEq, Repr

/-- The walk of the backup chain from a candidate, at most `fuel` more hops (R151). -/
def walkChain : Nat → Nat → Option SectionNo → State → WalkEnd
  | 0, hop, _, _ => .exhausted .hopLimit (hop - 1)
  | _ + 1, hop, none, _ => .exhausted .noBackup hop
  | fuel + 1, hop, some b, s =>
    if s.sections[b].entry ≠ .valid then .exhausted .backupOff hop
    else if (switchSlot s.sections[b].words).isNone then .exhausted .noSwitch hop
    else if s.actions[b].state = .failed then walkChain fuel (hop + 1) (backupSection s.sections[b].words) s
    else .joins b hop

/-- Sections join an origin list one by one at its end; those in it, and the record's own section, are passed over
(R152). -/
def joinOrigins (b : SectionNo) (group : List SectionNo) (origins : List SectionNo) : List SectionNo :=
  group.foldl (fun l x => if x = b ∨ x ∈ l then l else l ++ [x]) origins

/-- The escalation set joins the backup's record according to its state (R152). -/
def joinBackup (b : SectionNo) (group : List SectionNo) (s : State) : State :=
  let a := s.actions[b]
  let joined := joinOrigins b group a.origins
  match a.state with
  | .noAction | .held =>
    s.modAction b (fun a =>
      { a with state := createdState b s, cause := .escalation
               target := (switchSlot s.sections[b].words).getD a.target, attempts := 0, firstSent := none
               lastSent := none, origins := joined })
  | .pending | .sent => s.modAction b (fun a => { a with origins := joined })
  | .confirmed =>
    (joined.drop a.origins.length).foldl (fun s j => latchNotice j s)
      (s.modAction b (fun a => { a with origins := joined }))
  | .failed => s

/-- The escalation set is handed to the backup where the walk stopped (R152). -/
def escalateTo (source b : SectionNo) (hop : Nat) (group : List SectionNo) (s : State) : State :=
  let s := joinBackup b group s
  let s := queueReport (.sec b) (.escalated source b hop s.actions[b].state) s
  let s := reportHeld b s
  raiseKind b .backupCalled noPhases (activeProfile b s) s

/-- The escalation of a failing section: its set walked up the backup chain (R150 to R153). -/
def escalate (n : SectionNo) (s : State) : State :=
  let group := n :: s.actions[n].origins
  match walkChain 3 1 (backupSection s.sections[n].words) s with
  | .joins b hop => escalateTo n b hop group s
  | .exhausted reason hops => queueReport (.sec n) (.escalationExhausted reason hops group) s

/-- The failure of a SENT record, one event (R150). -/
def failAction (n : SectionNo) (s : State) : State :=
  let a := s.actions[n]
  let s := s.modAction n (fun a => { a with state := .failed })
  let s := queueReport (.sec n) (.actionFailed a.cause a.target a.attempts a.firstSent a.origins.length) s
  escalate n (raiseKind n .actionFailed noPhases (activeProfile n s) s)

/-! ## Retry and timeout (R145) -/

/-- At least `k` epochs lie between a sent epoch and C. -/
def elapsed (since : Option Epoch) (k : Nat) (s : State) : Bool :=
  match since with
  | none => false
  | some e => decide ((k : Int) ≤ serialDiff e s.clock.c)

/-- The record is SENT and its confirm_timeout has run out (R145). -/
def timeoutDue (n : SectionNo) (s : State) : Bool :=
  decide (s.actions[n].state = .sent) && elapsed s.actions[n].firstSent (Prof.confirmTimeout (activeWords n s)) s

/-- The record is SENT, not due for its timeout, and due for a retry (R145). -/
def retryDue (n : SectionNo) (s : State) : Bool :=
  decide (s.actions[n].state = .sent) && !timeoutDue n s &&
  elapsed s.actions[n].lastSent (Prof.retryEpochs (activeWords n s)) s &&
  decide (s.actions[n].attempts < Prof.attempts (activeWords n s))

/-- A SENT record returns to PENDING (R145). -/
def retryAction (n : SectionNo) (s : State) : State := s.modAction n (fun a => { a with state := .pending })

/-! ## The send slot (R142, R143) -/

/-- The PENDING record of highest rank, of the lower number among equals (R142). -/
def chooseRecord (s : State) : Option SectionNo :=
  allSections.foldl (fun best n =>
    if s.actions[n].state = .pending then
      match best with
      | none => some n
      | some b => if s.actions[n].cause.rank < s.actions[b].cause.rank then some n else best
    else best) none

/-- The stream identifier an ACTION frame is addressed to (R143): an EMPTY entry's words are 0 (R181). -/
def targetStream (m : SlotNo) (s : State) : BitVec 16 := streamId s.slots[m].words

/-- The chosen record is sent, or, with no attempts left, returns to SENT (R143). -/
def sendRecord (n : SectionNo) (s : State) : State :=
  let a := s.actions[n]
  if a.attempts < Prof.attempts (activeWords n s) then
    let first := match a.firstSent with
      | none => some s.clock.c
      | some e => some e
    let frame : ActionFrame :=
      { tag := s.pins.tag, stream := targetStream a.target s, epoch := s.clock.c, sec := n, cause := a.cause
        attempt := a.attempts + 1 }
    let s := s.modPort (fun p => { p with actionList := p.actionList ++ [frame] })
    let s := s.modAction n (fun a =>
      { a with attempts := a.attempts + 1, lastSent := some s.clock.c, firstSent := first, state := .sent })
    queueReport (.sec n) (.actionSent a.cause a.target (targetStream a.target s) (a.attempts + 1) first) s
  else s.modAction n (fun a => { a with state := .sent })

/-- The send slot of a tick (R142, R10). -/
def sendSlot (s : State) : State :=
  if s.mode = .active ∧ s.port.actionList.length < Config.actionListCapacity then
    match chooseRecord s with
    | none => s
    | some n => sendRecord n s
  else s

/-- One outcome of the tests of R145 at a tick. -/
inductive ActionWork where
  | fail (n : SectionNo)
  | retry (n : SectionNo)
  deriving DecidableEq, Repr

def doActionWork (s : State) : ActionWork → State
  | .fail n => failAction n s
  | .retry n => retryAction n s

/-- The tick work of the action unit, one event (R142): the tests of every SENT record, the failures in ascending
section number (R154) with the retries among them in an order the manual leaves open, then the send slot. -/
def actionTick (s : State) : State :=
  let fails := (allSections.filter (fun n => timeoutDue n s)).map ActionWork.fail
  let retries := (allSections.filter (fun n => retryDue n s)).map (fun n => [ActionWork.retry n])
  let (code, s) := nextOrder s
  sendSlot ((interleave code (fails :: retries)).foldl doActionWork s)

/-- First-sent and last-sent renumbered at a clock step of offset k (R46). -/
def actionStep (k : Epoch) (s : State) : State :=
  { s with actions := s.actions.map (fun a =>
      match a.firstSent with
      | none => a
      | some f => { a with firstSent := some (f + k), lastSent := a.lastSent.map (fun e => e + k) }) }

end Sys2Proof.Machine
end

