-- ==== Sys2Proof/Machine/Streams.lean ====
section
/-! DEFINITION. The stream unit (chapter 2) and the store of the alignment buffer (R53, R55): descriptors, errors,
measurement frames, position reports, stale counting, commit and entry to LOADING. -/

namespace Sys2Proof.Machine

/-! ## What a frame's handling reads of it -/

/-- Position field of a MEASURE frame (1.2). -/
inductive FramePosition where
  | unstated | opened | closed | moving
  deriving DecidableEq, Repr

/-- A well-formed MEASURE frame (1.2, 12.3). -/
structure MeasureFrame where
  stream : BitVec 16
  epoch : Epoch
  sensorOk : Bool
  position : FramePosition
  channels : List Phasor
  deriving DecidableEq, Repr

/-- A well-formed DESCRIBE frame (1.2, 12.3). -/
structure DescribeFrame where
  stream : BitVec 16
  scale : Nat
  codes : List Nat
  deriving DecidableEq, Repr

/-! ## STREAM_STATE (R172) -/

/-- A change of stream state is reported for a slot. -/
def reportStream (m : SlotNo) (prev : StreamState) (new : ReportedStream) (cause : StreamCause)
    (error : Option ErrorKind) (s : State) : State :=
  queueReport (.slot m) (.streamState (streamId s.slots[m].words) prev new cause error) s

/-! ## A frame's handling as it moves one slot (R23, R24) -/

/-- A slot under the handling of one frame, with the cause of the last change of its stream state (R24) and whether a
usable record has been stored (R55). -/
structure SlotMove where
  slot : SlotState
  cause : Option (StreamCause × Option ErrorKind)
  stored : Bool
  deriving DecidableEq, Repr

/-- The start of a handling. -/
def SlotMove.of (x : SlotState) : SlotMove := { slot := x, cause := none, stored := false }

/-- The stream resynchronized (R23). -/
def SlotState.resync (x : SlotState) : SlotState :=
  { x with stream := .acquiring, ring := emptyRing, staleCount := 0 }

/-- The sticky flag and the error count of one error (R23). -/
def SlotState.countError (k : ErrorKind) (x : SlotState) : SlotState :=
  { x with sticky := x.sticky.raise k, errors := if inCountMask x.words k then saturatingSucc x.errors else x.errors }

/-- One error applied (R23). -/
def SlotMove.error (k : ErrorKind) (v : SlotMove) : SlotMove :=
  let x := v.slot.countError k
  if inResyncMask x.words k ∨ k = .descriptorMismatch then
    { v with slot := x.resync, cause := if x.stream = .acquiring then v.cause else some (.resync, some k) }
  else { v with slot := x }

/-- SENSOR_FAULT after the other error of the frame, when its sensor_ok is no (R24, R29, R30, R31). -/
def SlotMove.faultUnless (ok : Bool) (v : SlotMove) : SlotMove := if ok then v else v.error .sensorFault

/-- The handling ends: at most one STREAM_STATE, from the first state to the last with the cause of the last change
(R24). -/
def reportMove (m : SlotNo) (before : StreamState) (v : SlotMove) (s : State) : State :=
  match v.cause with
  | none => s
  | some (cause, error) =>
    if v.slot.stream = before then s else reportStream m before (.inState v.slot.stream) cause error s

/-! ## DESCRIBE frames (R20, R21) -/

/-- The quantity code of a quantity (1.2). -/
def Quantity.code (q : Quantity) : Nat := q.index + 1

/-- A DESCRIBE frame matches the stream entry (R20). -/
def describeMatches (w : Vector Word 6) (f : DescribeFrame) : Bool :=
  decide (f.scale = expectedScale w) &&
  allQuantities.all (fun q =>
    match mapIndex w q with
    | none => true
    | some i => decide (f.codes[i]? = some q.code))

/-- A DESCRIBE frame at its slot (R21). -/
def describeMove (f : DescribeFrame) (x : SlotState) : SlotMove :=
  if describeMatches x.words f then
    if x.stream = .acquiring then
      { slot := { x with stream := .locked, everLocked := true, staleCount := 0 }, cause := some (.matched, none)
        stored := false }
    else SlotMove.of x
  else (SlotMove.of x).error .descriptorMismatch

/-- A DESCRIBE frame handed to the stream unit (R21). -/
def handleDescribe (f : DescribeFrame) (s : State) : State :=
  match lookup f.stream s with
  | none => s
  | some m =>
    let v := describeMove f s.slots[m]
    reportMove m s.slots[m].stream v (s.modSlot m (fun _ => v.slot))

/-! ## Slot records (R31) -/

/-- The not-measured marker (6.2). -/
def notMeasured : Int := -32768

/-- One quantity of a slot record, from the frame's channels (R31). -/
def readChannel (w : Vector Word 6) (channels : List Phasor) (q : Quantity) : Reading :=
  match mapIndex w q with
  | none => .unmapped
  | some i =>
    match channels[i]? with
    | none => .absent
    | some p =>
      if p.re = notMeasured ∨ p.im = notMeasured then .absent
      else if inverted w ∧ q.isCurrent then .phasor { re := -p.re, im := -p.im }
      else .phasor p

/-- The slot record of an accepted frame (R31). -/
def buildRecord (w : Vector Word 6) (f : MeasureFrame) : SlotRecord :=
  { epoch := f.epoch, faulty := !f.sensorOk
    ia := readChannel w f.channels .ia, ib := readChannel w f.channels .ib, ic := readChannel w f.channels .ic
    va := readChannel w f.channels .va, vb := readChannel w f.channels .vb, vc := readChannel w f.channels .vc }

/-- A record stored at its ring position (R53). -/
def storeRecord (r : SlotRecord) (ring : Vector (Option SlotRecord) 16) : Vector (Option SlotRecord) 16 :=
  ring.set (Fin.ofNat 16 r.epoch.toNat) (some r)

/-! ## MEASURE frames (R26 to R31) -/

/-- The position a MEASURE frame leaves (R28). -/
def FramePosition.update : FramePosition → Position → Position
  | .unstated, x => x
  | .opened, _ => .opened
  | .closed, _ => .closed
  | .moving, _ => .moving

/-- An accepted frame: its record stored, the stale count 0, a STALE stream back to LOCKED, then SENSOR_FAULT (R31). -/
def acceptMove (f : MeasureFrame) (x : SlotState) : SlotMove :=
  let r := buildRecord x.words f
  SlotMove.faultUnless f.sensorOk
    { slot := { x with ring := storeRecord r x.ring, staleCount := 0
                       stream := if x.stream = .stale then .locked else x.stream }
      cause := if x.stream = .stale then some (.resumed, none) else none
      stored := r.usable }

/-- The early limit (R29). -/
def earlyLimit : ClockState → Int
  | .holdover => 4
  | .run | .unset => 2

/-- A frame beyond the early limit: EARLY (R29), but DUPLICATE for one of the epochs C + 3 and C + 4 while its record is
held (R63: the rule on exactly these frames is read as an exception to R29's table; DEDUCED, log entry 2). -/
def beyondLimit (d : Int) (held : Bool) : ErrorKind := if held ∧ d ≤ 4 then .duplicate else .early

/-- The epoch test of a frame that covers the map, with the clock set (R29, R30, R31). -/
def epochMove (c : Epoch) (limit : Int) (l : Nat) (f : MeasureFrame) (x : SlotState) : SlotMove :=
  let d := serialDiff c f.epoch
  let held := (ringRecord x.ring f.epoch).isSome
  if limit < d then ((SlotMove.of x).error (beyondLimit d held)).faultUnless f.sensorOk
  else if d < -((l : Int) - 1) then ((SlotMove.of x).error .late).faultUnless f.sensorOk
  else if held then ((SlotMove.of x).error .duplicate).faultUnless f.sensorOk
  else acceptMove f x

/-! ## Work that one event hands to several blocks -/

/-- One piece of work of a frame or a tick; pieces of different blocks and sections take no order (R42, R57, R79). -/
inductive Work where
  /-- R79: an OPEN report at a section. -/
  | switchOpen (n : SectionNo)
  /-- R147, R149: an OPEN report at the action unit, its records CONFIRMED together. -/
  | confirm (m : SlotNo)
  /-- R147, R149: the ACTION_CONFIRMED of one record confirmed. -/
  | confirmed (n : SectionNo)
  /-- R147, R80: a latch notice at a section. -/
  | latch (n : SectionNo)
  /-- R81: a CLOSED report at a section. -/
  | switchClosed (n : SectionNo)
  /-- R85: one evaluation of a section's run; those of other sections may come between two of them (R84, R162). -/
  | evaluate (n : SectionNo)
  /-- R24: the one STREAM_STATE of a frame. -/
  | streamMoved (m : SlotNo) (before : StreamState) (v : SlotMove)
  /-- R86: the forced evaluation of a section at the closure of an epoch. -/
  | force (x : Epoch) (n : SectionNo)
  /-- R47: the CLOCK_STATE of a tick, in the detail given. -/
  | clockState (d : Detail)
  /-- R57: the discard of a closed epoch, and the closure mark moved to it. -/
  | discard (x : Epoch)
  /-- R58: the discard of all records at or before the closure mark. -/
  | discardBehind
  /-- R61: the alignment buffer's part of a clock step. -/
  | bufferStep (mark : Epoch)
  /-- R46: a section's part of a clock step. -/
  | sectionStep (c k : Epoch) (n : SectionNo)
  /-- R74: the arming test of a section. -/
  | arm (n : SectionNo)
  /-- R33: the stale count of a slot. -/
  | stale (m : SlotNo)
  /-- R125: the MEMBER_RESYNC test of a section. -/
  | resyncTest (n : SectionNo)
  /-- R46: the action unit's part of a clock step. -/
  | actionStep (k : Epoch)
  /-- R142: the tick work of the action unit. -/
  | actionTick
  deriving DecidableEq, Repr

/-- Records for one epoch discarded from a ring (R57). -/
def discardEpoch (x : Epoch) (ring : Vector (Option SlotRecord) 16) : Vector (Option SlotRecord) 16 :=
  ring.map (fun o =>
    match o with
    | none => none
    | some r => if r.epoch = x then none else some r)

/-- Records at or before an epoch discarded from a ring (R58, R62). -/
def discardThrough (x : Epoch) (ring : Vector (Option SlotRecord) 16) : Vector (Option SlotRecord) 16 :=
  ring.map (fun o =>
    match o with
    | none => none
    | some r => if atOrBefore r.epoch x then none else some r)

/-- A LOCKED stream whose stale count has reached its limit becomes STALE (R33). -/
def staleTest (m : SlotNo) (s : State) : State :=
  if s.slots[m].entry = .valid ∧ s.slots[m].stream = .locked ∧ staleLimit s.slots[m].words ≤ s.slots[m].staleCount then
    reportStream m .locked (.inState .stale) .staleLimit none (s.modSlot m (fun x => { x with stream := .stale }))
  else s

/-- Stale counting of one slot at a tick (R33). -/
def countStale (m : SlotNo) (s : State) : State :=
  if s.slots[m].entry = .valid ∧ (s.slots[m].stream = .locked ∨ s.slots[m].stream = .stale) then
    staleTest m (s.modSlot m (fun x => { x with staleCount := saturatingSucc x.staleCount }))
  else s

def discardBehindMark (s : State) : State :=
  match s.closureMark with
  | none => s
  | some x => s.mapRings (discardThrough x)

/-- The piece reads the hazard level, by the active profile or the response of a rising kind (R93, R119, R127). -/
def Work.readsHazard : Work → Bool
  | .evaluate _ | .force _ _ | .arm _ | .resyncTest _ | .actionTick => true
  | .switchOpen _ | .confirm _ | .confirmed _ | .latch _ | .switchClosed _ | .streamMoved _ _ _ | .clockState _
  | .discard _ | .discardBehind | .bufferStep _ | .sectionStep _ _ _ | .stale _ | .actionStep _ => false

/-- One piece of work done. -/
def doWork (s : State) : Work → State
  | .switchOpen n => sectionOnOpen n s
  | .confirm m => confirmRecords m s
  | .confirmed n => reportConfirmed n s
  | .latch n => latchNotice n s
  | .switchClosed n => sectionOnClosed n s
  | .evaluate n => evaluateNext n s
  | .streamMoved m before v => reportMove m before v s
  | .clockState d => queueReport .device d s
  | .force x n => forcedEvaluation x n s
  | .discard x => { s.mapRings (discardEpoch x) with closureMark := some x }
  | .discardBehind => discardBehindMark s
  | .bufferStep mark => { s.mapRings (fun _ => emptyRing) with closureMark := some mark }
  | .sectionStep c k n => sectionStep c k n s
  | .arm n => armingTest n s
  | .stale m => countStale m s
  | .resyncTest n => memberResyncTest n s
  | .actionStep k => actionStep k s
  | .actionTick => actionTick s

/-- One piece of an event's work, a change of the hazard level falling before it or not where it reads the level
(R111). -/
def doWorkAmong (s : State) (w : Work) : State := doWork (if w.readsHazard then hazardMoment s else s) w

/-- Threads of work done in one interleaving of them (log entry 1). -/
def runWork (threads : List (List Work)) (s : State) : State :=
  let (code, s) := nextOrder s
  (interleave code threads).foldl doWorkAmong s

/-! ## Position reports and store notices (R28, R55) -/

/-- The sections whose switch slot is a slot (R79, R81). -/
def switchedBy (m : SlotNo) (s : State) : List SectionNo :=
  allSections.filter (fun n => decide (switchSlot s.sections[n].words = some m))

/-- The sections that have a slot as a member (R55). -/
def membersOf (m : SlotNo) (s : State) : List SectionNo :=
  allSections.filter (fun n => decide (m ∈ members s.sections[n].words))

/-- The run of a section that goes on while its next epoch is complete, one piece of work for each evaluation (R85): a
ring holds 16 epochs, so no run is longer. -/
def evaluations (n : SectionNo) : List Work := List.replicate 16 (.evaluate n)

/-- The work on the records that an OPEN report confirms, in ascending section number: for each its ACTION_CONFIRMED,
then the latch notices to its own section and to its origins in the order of the list. A record's notices come after its
own ACTION_CONFIRMED, in any interleaving with the work on the records after it (R147, R149, R171). -/
def confirmThread : List SectionNo → State → List Work × State
  | [], s => ([], s)
  | n :: more, s =>
    let (code, s) := nextOrder s
    let (after, s) := confirmThread more s
    (.confirmed n :: interleave code [(n :: s.actions[n].origins).map Work.latch, after], s)

/-- An OPEN report handed to the section evaluator and the action unit, which take no order (R28, R79, R149). The origin
lists are those at the report: their sections hold FAILED records, which none of this work drops. -/
def reportOpen (m : SlotNo) (s : State) : State :=
  let (confirmations, s) := confirmThread (confirmedBy m s) s
  runWork ((.confirm m :: confirmations) :: (switchedBy m s).map (fun n => [.switchOpen n])) s

/-- A position report handed to the section evaluator and the action unit (R28). -/
def reportPosition (m : SlotNo) (p : FramePosition) (s : State) : State :=
  match p with
  | .opened => reportOpen m s
  | .closed => runWork ((switchedBy m s).map (fun n => [.switchClosed n])) s
  | .unstated | .moving => s

/-- The last position updated by a frame with sensor_ok yes, and reported (R28). -/
def updatePosition (m : SlotNo) (f : MeasureFrame) (s : State) : State :=
  if f.sensorOk then
    reportPosition m f.position (s.modSlot m (fun x => { x with position := f.position.update x.position }))
  else s

/-- The store of a usable record is notified to each section having the slot as a member, and the frame's STREAM_STATE
is queued; it and the evaluations of the sections take no order (R55, R84, R171). -/
def finishMeasure (m : SlotNo) (before : StreamState) (v : SlotMove) (s : State) : State :=
  runWork ([.streamMoved m before v] :: (if v.stored then (membersOf m s).map evaluations else []))
    (s.modSlot m (fun _ => v.slot))

/-- A MEASURE frame that covers the map of a LOCKED or STALE slot, the clock set (R28 to R31). -/
def measureInWindow (m : SlotNo) (f : MeasureFrame) (s : State) : State :=
  let s := updatePosition m f s
  let x := s.slots[m]
  finishMeasure m x.stream (epochMove s.clock.c (earlyLimit s.clock.state) (allowanceL s.settings) f x) s

/-- A MEASURE frame at a LOCKED or STALE slot (R26, R27). -/
def measureAt (m : SlotNo) (f : MeasureFrame) (s : State) : State :=
  if f.channels.length < channelsNeeded s.slots[m].words then
    if clockSet s then
      finishMeasure m s.slots[m].stream ((SlotMove.of s.slots[m]).error .channelShort) s
    else s
  else if clockSet s then measureInWindow m f s
  else updatePosition m f s

/-- A MEASURE frame handed to the stream unit (R26). -/
def handleMeasure (f : MeasureFrame) (s : State) : State :=
  match lookup f.stream s with
  | none => s
  | some m =>
    match s.slots[m].stream with
    | .locked | .stale => measureAt m f s
    | .acquiring | .noState => s

/-! ## Commit, entry to LOADING, CLEAR_STREAM (R19, R25, R34, R35) -/

/-- The stream unit's dynamic state of a slot at its start values (R19, R34). -/
def SlotState.fresh (x : StreamState) (v : SlotState) : SlotState :=
  { v with stream := x, sticky := ErrorFlags.clear, errors := 0, position := .unknown, everLocked := false
           staleCount := 0, ring := emptyRing }

/-- A stream entry committed VALID (R19). -/
def startStream (m : SlotNo) (s : State) : State :=
  reportStream m .noState (.inState .acquiring) .commit none (s.modSlot m (SlotState.fresh .acquiring))

/-- A VALID stream entry enters LOADING (R34). The record carries the identifier held before the write (R172). -/
def stopStream (m : SlotNo) (s : State) : State :=
  (reportStream m s.slots[m].stream .outOfService .loading none s).modSlot m (SlotState.fresh .noState)

end Sys2Proof.Machine
end

