-- ==== Sys2Proof/Machine/Frames.lean ====
section
/-! DEFINITION. Reading the bytes of a received frame: the Ethernet check, the Line Stream header, the malformed test
and the payloads (R2 to R5, 12.2, 12.3). -/

namespace Sys2Proof.Machine

/-- What a received frame is to the part. -/
inductive Parsed where
  /-- R3: a frame of another protocol; R4: a malformed Line Stream frame. Both are forwarded and otherwise ignored. -/
  | foreign
  | measure (f : MeasureFrame)
  | describe (f : DescribeFrame)
  | sync (announced : Epoch)
  | mgmt (tag : BitVec 16) (source : List Byte) (requests : List RawRequest)
  /-- A well-formed ACTION, REPORT or MGMT_REPLY frame: forwarded only (R5). -/
  | passing
  deriving DecidableEq, Repr

/-- Two bytes, high byte first (R193). -/
def be16 (h l : Byte) : BitVec 16 := h ++ l

/-- The byte at an offset of a frame, counted from the first destination address byte (R193). -/
def byteAt (bytes : List Byte) (i : Nat) : Byte := bytes.getD i 0

/-- The two bytes at an offset. -/
def be16At (bytes : List Byte) (i : Nat) : BitVec 16 := be16 (byteAt bytes i) (byteAt bytes (i + 1))

/-- Channels of 4 bytes each, re then im, signed (12.3). -/
def readChannels : List Byte → List Phasor
  | a :: b :: c :: d :: rest => { re := (be16 a b).toInt, im := (be16 c d).toInt } :: readChannels rest
  | _ => []

/-- The requests of a MGMT payload, one after another by their length fields; they must end exactly at its end
(12.3). -/
def readRequests : Nat → List Byte → Option (List RawRequest)
  | 0, [] => some []
  | q + 1, code :: h :: l :: rest =>
    if (be16 h l).toNat ≤ rest.length then
      (readRequests q (rest.drop (be16 h l).toNat)).map
        (fun more => { code := code, params := rest.take (be16 h l).toNat } :: more)
    else none
  | _, _ => none

/-- Whether the results of a MGMT_REPLY payload end exactly at its end (12.3). -/
def resultsEnd : Nat → List Byte → Bool
  | 0, [] => true
  | q + 1, _ :: _ :: h :: l :: rest =>
    if (be16 h l).toNat ≤ rest.length then resultsEnd q (rest.drop (be16 h l).toNat) else false
  | _, _ => false

/-- Stream identifiers a MEASURE or DESCRIBE frame may carry (R4). -/
def streamIdOk (stream : BitVec 16) : Bool := decide (stream ≠ 0) && decide (stream ≠ 65535)

/-- A channel, request or record count in 1 to 8 (R4). -/
def countOk (k : Byte) : Bool := decide (1 ≤ k.toNat) && decide (k.toNat ≤ 8)

/-- Position field of a MEASURE frame (12.3). -/
def framePosition (b : Byte) : FramePosition :=
  match b.toNat with
  | 0 => .unstated
  | 1 => .opened
  | 2 => .closed
  | _ => .moving

/-- A MEASURE payload (R4, 12.3). -/
def readMeasure (stream : BitVec 16) (epoch : Epoch) : List Byte → Parsed
  | ok :: pos :: k :: rest =>
    if streamIdOk stream && countOk k && decide (rest.length = 4 * k.toNat) && decide (ok.toNat ≤ 1) &&
        decide (pos.toNat ≤ 3) then
      .measure { stream := stream, epoch := epoch, sensorOk := decide (ok = 1), position := framePosition pos
                 channels := readChannels rest }
    else .foreign
  | _ => .foreign

/-- A DESCRIBE payload (R4, 12.3). -/
def readDescribe (stream : BitVec 16) : List Byte → Parsed
  | scale :: k :: codes =>
    if streamIdOk stream && countOk k && decide (codes.length = k.toNat) && codes.all (fun c => decide (c.toNat ≤ 6)) then
      .describe { stream := stream, scale := scale.toNat % 16, codes := codes.map BitVec.toNat }
    else .foreign
  | _ => .foreign

/-- A MGMT payload (R4, 12.3). -/
def readMgmt (source : List Byte) : List Byte → Parsed
  | h :: l :: q :: rest =>
    if countOk q then
      match readRequests q.toNat rest with
      | none => .foreign
      | some requests => .mgmt (be16 h l) source requests
    else .foreign
  | _ => .foreign

/-- A REPORT payload (R4, 12.3). -/
def readReport : List Byte → Parsed
  | _ :: _ :: r :: _ :: rest => if countOk r && decide (rest.length = 20 * r.toNat) then .passing else .foreign
  | _ => .foreign

/-- A MGMT_REPLY payload (12.3). -/
def readReply : List Byte → Parsed
  | _ :: _ :: q :: rest => if resultsEnd q.toNat rest then .passing else .foreign
  | _ => .foreign

/-- The payload of a Line Stream frame by its kind (R4, 12.2). -/
def readPayload (kind : Byte) (source : List Byte) (stream : BitVec 16) (epoch : Epoch) (payload : List Byte) : Parsed :=
  match kind.toNat with
  | 1 => readMeasure stream epoch payload
  | 2 => readDescribe stream payload
  | 3 => if payload.isEmpty then .sync epoch else .foreign
  | 4 => if payload.length = 4 then .passing else .foreign
  | 5 => readReport payload
  | 6 => readMgmt source payload
  | 7 => readReply payload
  | _ => .foreign

/-- The bytes between the header and the frame check sequence: payload and padding (12.2). -/
def afterHeader (bytes : List Byte) : List Byte :=
  (bytes.take (bytes.length - Config.fcsBytes)).drop Config.headerBytes

/-- A received frame read (R3, R4). A payload length greater than the bytes that follow the header is malformed; the
frame check sequence is not counted among them (log entry 9). -/
def parseFrame (bytes : List Byte) : Parsed :=
  if be16At bytes 12 = Config.protocolType ∧ byteAt bytes 14 = 1 ∧
      (be16At bytes 20).toNat ≤ (afterHeader bytes).length then
    readPayload (byteAt bytes 15) ((bytes.drop 6).take 6) (be16At bytes 16) (be16At bytes 18)
      ((afterHeader bytes).take (be16At bytes 20).toNat)
  else .foreign

/-- The Ethernet check (R2): the check sequence holds and the length is 64 to 2560 bytes. -/
def ethernetOk (fcsOk : Bool) (bytes : List Byte) : Bool :=
  fcsOk && decide (Config.minFrame ≤ bytes.length) && decide (bytes.length ≤ Config.maxFrame)

end Sys2Proof.Machine
end

