-- ==== Sys2Proof/Machine/Layout.lean ====
section
/-! DEFINITION. Layouts (chapter 12): the codes of 12.5, the words of the read-only regions (12.7, R196), the bytes of
report records (12.4) and the bytes of device frames (R13, 12.2, 12.3). -/

namespace Sys2Proof.Machine

/-! ## Codes (12.5) -/

def EntryState.code : EntryState → Nat
  | .empty => 0
  | .loading => 1
  | .invalid => 2
  | .valid => 3

def StreamState.code : StreamState → Nat
  | .noState => 0
  | .acquiring => 1
  | .locked => 2
  | .stale => 3

def ReportedStream.code : ReportedStream → Nat
  | .inState x => x.code
  | .outOfService => 4

def SectionMode.code : SectionMode → Nat
  | .off => 0
  | .arming => 1
  | .holdoff => 2
  | .watch => 3
  | .blind => 4
  | .deenergized => 5
  | .latched => 6

def ClockState.code : ClockState → Nat
  | .unset => 0
  | .run => 1
  | .holdover => 2

def Position.code : Position → Nat
  | .unknown => 0
  | .opened => 1
  | .closed => 2
  | .moving => 3

def Kind.code (k : Kind) : Nat := k.bit + 1

def ErrorKind.code (k : ErrorKind) : Nat := k.bit + 1

/-- ISOLATE and REPORT have codes; a kind with response RECORD raises no record that carries one. -/
def Response.code : Response → Nat
  | .isolate => 1
  | .report => 2
  | .record => 0

def ActionState.code : ActionState → Nat
  | .noAction => 0
  | .held => 1
  | .pending => 2
  | .sent => 3
  | .confirmed => 4
  | .failed => 5

def Cause.code (c : Cause) : Nat := c.rank

def Hazard.code : Hazard → Nat
  | .normal => 0
  | .elevated => 1

def DeviceMode.code : DeviceMode → Nat
  | .starting => 0
  | .active => 1
  | .suspended => 2

def ImageStatus.code : ImageStatus → Nat
  | .noImage => 0
  | .rejected => 1
  | .applied => 2
  | .appliedWithErrors => 3

def Progress.code : Progress → Nat
  | .nothing => 0
  | .waiting => 1
  | .done => 2
  | .skipping => 3
  | .passing => 4

def SectionCause.code : SectionCause → Nat
  | .commit => 1
  | .loading => 2
  | .armed => 3
  | .holdoffDone => 4
  | .sightLost => 5
  | .sightRegained => 6
  | .switchOpen => 7
  | .latch => 8
  | .switchClosed => 9
  | .restore => 10

def StreamCause.code : StreamCause → Nat
  | .commit => 1
  | .matched => 2
  | .resync => 3
  | .staleLimit => 4
  | .resumed => 5
  | .loading => 6

def ClockCause.code : ClockCause → Nat
  | .numbered => 1
  | .step => 2
  | .holdoverEntered => 3
  | .pulseRestored => 4

def ClearCause.code : ClearCause → Nat
  | .sightRegained => 1
  | .self => 2
  | .leftService => 3
  | .clearRequest => 4
  | .restore => 5
  | .loading => 6

def CaptureState.code : CaptureState → Nat
  | .free => 0
  | .filling => 1
  | .frozen => 2

def Trigger.code : Trigger → Nat
  | .downedPickup => 0
  | .openPickup => 1

def StreamReason.code : StreamReason → Nat
  | .good => 0
  | .badField => 1
  | .badIdentifier => 2
  | .badStaleLimit => 3
  | .mapConflict => 4
  | .noCurrent => 5
  | .duplicateId => 6

def SectionReason.code : SectionReason → Nat
  | .good => 0
  | .badField => 1
  | .badAllowance => 2
  | .memberConflict => 3
  | .badBackup => 4
  | .profileNotValid => 5

def ProfileReason.code : ProfileReason → Nat
  | .good => 0
  | .badField => 1
  | .badRange => 2
  | .irrExceedsWindow => 3
  | .retryExceedsTimeout => 4

def ResultCode.code : ResultCode → Nat
  | .ok => 0
  | .badAddress => 1
  | .badLength => 2
  | .badValue => 3
  | .inUse => 4
  | .busy => 5
  | .actionBusy => 6
  | .notReady => 7

def HeldReason.code : HeldReason → Nat
  | .permitOff => 1
  | .notActive => 2

def DropReason.code : DropReason → Nat
  | .liveCleared => 1
  | .clearRequest => 2
  | .loading => 3

def ExhaustedReason.code : ExhaustedReason → Nat
  | .noBackup => 1
  | .backupOff => 2
  | .noSwitch => 3
  | .hopLimit => 4

/-- A Boolean as a bit. -/
def bit (b : Bool) : Nat := if b then 1 else 0

/-- A phase set (12.5). -/
def PhaseSet.code (x : PhaseSet) : Nat := bit x.a + 2 * bit x.b + 4 * bit x.c

/-- Error flags as a set (12.5). -/
def ErrorFlags.code (f : ErrorFlags) : Nat :=
  bit f.descriptorMismatch + 2 * bit f.channelShort + 4 * bit f.early + 8 * bit f.late + 16 * bit f.duplicate +
  32 * bit f.sensorFault

/-- The kinds set in a condition set, as a set (12.5). -/
def ConditionSet.code (c : ConditionSet) : Nat :=
  bit c.opened.isSome + 2 * bit c.downed.isSome + 4 * bit c.sightLoss.isSome + 8 * bit c.memberResync.isSome +
  16 * bit c.actionFailed.isSome + 32 * bit c.backupCalled.isSome

/-- An error kind as a number; 0 for NONE (12.5). -/
def errorCode : Option ErrorKind → Nat
  | none => 0
  | some k => k.code

/-- A list of sections as a set, bit n for section n. -/
def sectionSet (l : List SectionNo) : Word :=
  l.foldl (fun (w : Word) n => w ||| (1#32 <<< n.val)) 0

/-! ## Words of the read-only regions (12.7) -/

/-- A value placed in a word as a field of `width` bits whose lowest bit is bit `lo`. -/
def field (lo width v : Nat) : Word := BitVec.ofNat 32 (v % 2 ^ width) <<< lo

/-- An optional epoch's value: 0 when NONE, its presence bit saying so (R193). -/
def epochOr0 (e : Option Epoch) : Nat := (e.getD 0).toNat

/-- Device status words (12.7). -/
def deviceStatusWord (k : Nat) (s : State) : Word :=
  match k with
  | 0 => field 0 16 s.clock.c.toNat ||| field 16 16 (epochOr0 s.clock.announce)
  | 1 =>
    field 0 16 (epochOr0 s.closureMark) ||| field 16 2 s.clock.state.code ||| field 18 1 (bit s.clock.announce.isSome) |||
    field 19 1 (bit s.closureMark.isSome) ||| field 20 3 s.clock.progress.code ||| field 24 1 s.hazard.code |||
    field 25 2 s.mode.code ||| field 28 2 s.imageStatus.code ||| field 30 1 (bit (alarmA s)) |||
    field 31 1 (bit (alarmB s))
  | 2 =>
    allProfiles.foldl (fun w p => w ||| field (16 + 2 * p.val) 2 s.profiles[p].entry.code)
      (field 0 7 s.report.queue.length ||| field 8 7 (owedCount s.report))
  | _ => allProfiles.foldl (fun w p => w ||| field (3 * p.val) 3 s.profiles[p].reason.code) 0

/-- The number of records a ring holds (R67). -/
def ringCount (ring : Vector (Option SlotRecord) 16) : Nat := (ring.toList.filter Option.isSome).length

/-- Stream status words (12.7). -/
def streamStatusWord (m : SlotNo) (k : Nat) (s : State) : Word :=
  let x := s.slots[m]
  match k with
  | 0 =>
    field 0 2 x.entry.code ||| field 2 3 x.reason.code ||| field 5 3 x.stream.code ||| field 8 2 x.position.code |||
    field 10 1 (bit x.everLocked) ||| field 16 6 x.sticky.code ||| field 24 5 (ringCount x.ring)
  | _ => field 0 8 x.errors ||| field 8 8 x.staleCount

/-- The next epoch as READ shows it: 0 for an OFF section (R196). -/
def shownNext (x : SectionState) : Epoch := if x.mode = .off then 0 else x.next

/-- Section status words (R90, 12.7). -/
def sectionStatusWord (n : SectionNo) (k : Nat) (s : State) : Word :=
  let x := s.sections[n]
  let c := s.conds[n]
  match k with
  | 0 =>
    field 0 2 x.entry.code ||| field 2 3 x.reason.code ||| field 8 3 x.mode.code ||| field 11 1 (bit s.missed[n]) |||
    field 16 16 (shownNext x).toNat
  | 1 =>
    field 0 8 x.incomplete ||| field 8 8 x.holdoff ||| field 16 6 c.code ||| field 24 3 c.openPhases.code |||
    field 28 3 c.downedPhases.code
  | 2 => field 0 16 x.phases.a.acc ||| field 16 16 x.phases.b.acc
  | 3 => field 0 16 x.phases.c.acc ||| field 16 8 x.phases.a.openCount ||| field 24 8 x.phases.b.openCount
  | 4 =>
    field 0 8 x.phases.c.openCount ||| field 8 6 x.phases.a.window.length ||| field 16 6 x.phases.b.window.length |||
    field 24 6 x.phases.c.window.length
  | _ => 0

/-- The cause and the target slot as they are shown: 0 for a record in NONE (R193, R196). -/
def shownCause (a : ActionRecord) : Nat := if a.state = .noAction then 0 else a.cause.code
def shownTarget (a : ActionRecord) : Nat := if a.state = .noAction then 0 else a.target.val

/-- Action record words (R135, 12.7). -/
def actionWord (n : SectionNo) (k : Nat) (s : State) : Word :=
  let a := s.actions[n]
  match k with
  | 0 =>
    field 0 3 a.state.code ||| field 4 3 (shownCause a) ||| field 8 6 (shownTarget a) ||| field 16 3 a.attempts |||
    field 20 1 (bit a.firstSent.isSome) ||| field 21 1 (bit a.lastSent.isSome)
  | 1 => field 0 16 (epochOr0 a.firstSent) ||| field 16 16 (epochOr0 a.lastSent)
  | 2 => sectionSet a.origins
  | _ => field 0 6 a.origins.length

/-- A umag, dmag or T in a capture record: 65535 when NONE (R196). -/
def magOr : Option Nat → Nat
  | none => 65535
  | some x => x

/-- Phase values of a record, by phase; none for an INCOMPLETE record (R196). -/
def EvalRecord.values (r : EvalRecord) (p : Phase) : Option PhaseValues := r.phases.map (fun v => v.get p)

/-- The open count of a phase in a capture record; 0 for an INCOMPLETE record (R196). -/
def openCountOf (r : EvalRecord) (p : Phase) : Nat :=
  match r.values p with
  | none => 0
  | some v => v.openCount

/-- The two words of one phase of a capture record (12.7, R196). -/
def phaseWords (r : EvalRecord) (p : Phase) (second : Bool) : Word :=
  match r.values p with
  | none => 0
  | some v =>
    if second then field 0 16 (magOr v.threshold) ||| field 16 16 v.acc
    else field 0 16 (magOr v.umag) ||| field 16 16 (magOr v.dmag)

/-- Word j, 0 to 6, of a capture record (12.7). -/
def captureRecordWord (r : EvalRecord) (j : Nat) : Word :=
  match j with
  | 0 => field 0 16 r.epoch.toNat ||| field 16 8 (openCountOf r .a) ||| field 24 8 (openCountOf r .b)
  | 1 => phaseWords r .a false
  | 2 => phaseWords r .a true
  | 3 => phaseWords r .b false
  | 4 => phaseWords r .b true
  | 5 => phaseWords r .c false
  | _ => phaseWords r .c true

/-- The completeness map of a capture: bit k for record k (12.7). -/
def completenessMap (records : List EvalRecord) : Word :=
  records.zipIdx.foldl (fun w rk => w ||| field rk.2 1 (bit rk.1.phases.isSome)) 0

/-- The phase C open counts of records 4i to 4i + 3 (12.7). -/
def openCountsC (records : List EvalRecord) (i : Nat) : Word :=
  ((records.drop (4 * i)).take 4).zipIdx.foldl (fun w rk => w ||| field (8 * rk.2) 8 (openCountOf rk.1 .c)) 0

/-- The 128 words of a capture buffer (12.7, R160). -/
def captureWord (b : Capture) (k : Nat) : Word :=
  if k = 0 then
    field 0 2 b.state.code ||| field 2 1 (bit b.short) ||| field 3 1 b.trigger.code ||| field 4 3 b.profile.val |||
    field 8 5 b.sec.val ||| field 16 4 b.pre ||| field 24 4 b.post
  else if k = 1 then field 0 16 b.triggerEpoch.toNat
  else if k = 2 then completenessMap b.records
  else if 4 ≤ k ∧ k ≤ 7 then openCountsC b.records (k - 4)
  else if 16 ≤ k then
    match b.records[(k - 16) / 7]? with
    | none => 0
    | some r => captureRecordWord r ((k - 16) % 7)
  else 0

/-! ## Report records (12.4) -/

def byteOf (v : Nat) : Byte := BitVec.ofNat 8 v

/-- A number as two bytes, high byte first (R193). -/
def bytes16 (v : BitVec 16) : List Byte := [v.extractLsb' 8 8, v.extractLsb' 0 8]

/-- A word as four bytes, high byte first (R193). -/
def bytes32 (v : Word) : List Byte :=
  [v.extractLsb' 24 8, v.extractLsb' 16 8, v.extractLsb' 8 8, v.extractLsb' 0 8]

/-- The two bytes of an epoch in a report record. Where the epoch is NONE they are 0: R193 gives that value for a status
word, and 12.4 gives a presence byte alone (DEDUCED, log entry 36). -/
def epochBytes (e : Option Epoch) : List Byte := bytes16 (e.getD 0)

/-- The kind number of a record (12.4). -/
def Detail.kindCode : Detail → Nat
  | .conditionSet .. => 1
  | .conditionCleared .. => 2
  | .actionHeld .. => 3
  | .actionSent .. => 4
  | .actionConfirmed .. => 5
  | .actionFailed .. => 6
  | .actionCancelled .. => 7
  | .escalated .. => 8
  | .escalationExhausted .. => 9
  | .sectionState .. => 10
  | .streamState .. => 11
  | .clockState .. => 12
  | .hazardChange .. => 13
  | .captureFrozen .. => 14
  | .summaryDevice .. => 15
  | .summarySection .. => 15
  | .summarySlot .. => 15

/-- The detail bytes of a record, in the order of 12.4. An announcement that is NONE, and the cause and target of an
action record in state NONE, are sent as 0 (DEDUCED, log entry 36). -/
def Detail.bytes : Detail → List Byte
  | .conditionSet k ph r added =>
    [byteOf k.code, byteOf ph.code, byteOf r.response.code, byteOf r.profile.val, byteOf r.level.code, byteOf (bit added)]
  | .conditionCleared k ph cause => [byteOf k.code, byteOf ph.code, byteOf cause.code]
  | .actionHeld c t why => [byteOf c.code, byteOf t.val, byteOf why.code]
  | .actionSent c t stream attempt first =>
    [byteOf c.code, byteOf t.val] ++ bytes16 stream ++ [byteOf attempt] ++ epochBytes first
  | .actionConfirmed c t attempts origins => [byteOf c.code, byteOf t.val, byteOf attempts, byteOf origins]
  | .actionFailed c t attempts first origins =>
    [byteOf c.code, byteOf t.val, byteOf attempts] ++ epochBytes first ++ [byteOf origins]
  | .actionCancelled c why attempts => [byteOf c.code, byteOf why.code, byteOf attempts]
  | .escalated source target hop st => [byteOf source.val, byteOf target.val, byteOf hop, byteOf st.code]
  | .escalationExhausted why hops group => [byteOf why.code, byteOf hops] ++ bytes32 (sectionSet group)
  | .sectionState prev new cause next => [byteOf prev.code, byteOf new.code, byteOf cause.code] ++ bytes16 next
  | .streamState stream prev new cause error =>
    bytes16 stream ++ [byteOf prev.code, byteOf new.code, byteOf cause.code, byteOf (errorCode error)]
  | .clockState prev new oldC newC cause =>
    [byteOf prev.code, byteOf new.code] ++ bytes16 oldC ++ bytes16 newC ++ [byteOf cause.code]
  | .hazardChange prev new => [byteOf prev.code, byteOf new.code]
  | .captureFrozen i e t short pre post =>
    byteOf i.val :: bytes16 e ++ [byteOf t.code, byteOf (bit short), byteOf pre, byteOf post]
  | .summaryDevice clock c announce level mode image a b =>
    byteOf clock.code :: bytes16 c ++ byteOf (bit announce.isSome) :: epochBytes announce ++
      [byteOf level.code, byteOf mode.code, byteOf image.code, byteOf (bit a + 2 * bit b)]
  | .summarySection entry mode next incomplete conds action missed =>
    [byteOf entry.code, byteOf mode.code] ++ bytes16 next ++
      [byteOf incomplete, byteOf conds.code, byteOf conds.openPhases.code, byteOf conds.downedPhases.code,
       byteOf action.state.code, byteOf (shownCause action), byteOf (shownTarget action), byteOf action.attempts,
       byteOf (bit missed)]
  | .summarySlot entry stream st sticky errors position =>
    byteOf entry.code :: bytes16 stream ++ [byteOf st.code, byteOf sticky.code, byteOf errors, byteOf position.code]

def Originator.bytes : Originator → List Byte
  | .device => [0, 0]
  | .sec n => [1, byteOf n.val]
  | .slot m => [2, byteOf m.val]

/-- A list of bytes filled up with zeros to a length. -/
def padTo (k : Nat) (l : List Byte) : List Byte := l ++ List.replicate (k - l.length) 0

/-- The 20 bytes of a report record (12.4). Bytes 4 and 5 are 0 where its epoch is NONE (DEDUCED, log entry 36). -/
def ReportRecord.bytes (r : ReportRecord) : List Byte :=
  padTo 20
    (byteOf r.detail.kindCode :: r.origin.bytes ++ byteOf (bit r.epoch.isSome) :: epochBytes r.epoch ++
      r.detail.bytes)

/-! ## Device frames (R13, 12.2, 12.3) -/

/-- The part's own Ethernet source address (12.2). -/
def sourceAddress (tag : BitVec 10) : List Byte := [0x02, 0x4E, 0x5A, 0x26] ++ bytes16 (tag.setWidth 16)

/-- The Line Stream station group address (12.2). -/
def stationGroup : List Byte := [0x03, 0x4E, 0x5A, 0x00, 0x00, 0x01]

/-- The Line Stream field group address (12.2). -/
def fieldGroup : List Byte := [0x03, 0x4E, 0x5A, 0x00, 0x00, 0x02]

/-- A device frame's bytes with the frame check sequence that the port computes at their end (R13, log entry 6). -/
def withCheck (bytes : List Byte) : List Byte := bytes ++ bytes32 (Config.frameCheck bytes)

/-- A device frame from the first destination address byte to the last byte of its frame check sequence, padded so that
it is at least 64 bytes (R13). The padding bytes are 0: the manual gives no value for them (DESIGN CHOICE, log entry
34). -/
def deviceFrame (dest : List Byte) (tag : BitVec 10) (kind : Nat) (stream : BitVec 16) (epoch : Epoch)
    (payload : List Byte) : List Byte :=
  withCheck <| padTo (Config.minFrame - Config.fcsBytes)
    (dest ++ sourceAddress tag ++ bytes16 Config.protocolType ++ [1, byteOf kind] ++ bytes16 stream ++ bytes16 epoch ++
      bytes16 (BitVec.ofNat 16 payload.length) ++ payload)

/-- The epoch in the header of a device frame: C, or 0 while the clock is UNSET (R13). -/
def headerEpoch (s : State) : Epoch := if clockSet s then s.clock.c else 0

/-- The bytes of an ACTION frame (12.3). -/
def ActionFrame.bytes (f : ActionFrame) : List Byte :=
  deviceFrame fieldGroup f.tag 4 f.stream f.epoch [1, byteOf f.sec.val, byteOf f.cause.code, byteOf f.attempt]

/-- One result of a MGMT_REPLY (12.3). -/
def Result.bytes (r : Result) : List Byte :=
  [r.request, byteOf r.code.code] ++ bytes16 (BitVec.ofNat 16 r.data.length) ++ r.data

/-- The bytes of a MGMT_REPLY frame, assembled at the taking (R13, 12.3). -/
def replyBytes (r : Reply) (s : State) : List Byte :=
  deviceFrame r.dest s.pins.tag 7 0 (headerEpoch s)
    (bytes16 (r.tag.setWidth 16) ++ byteOf r.results.length :: (r.results.map Result.bytes).flatten)

/-- The bytes of a REPORT frame, assembled at the taking (R174, 12.3). -/
def reportBytes (records : List ReportRecord) (s : State) : List Byte :=
  deviceFrame stationGroup s.pins.tag 5 0 (headerEpoch s)
    (bytes16 (s.pins.tag.setWidth 16) ++ [byteOf records.length, 0] ++ (records.map ReportRecord.bytes).flatten)

end Sys2Proof.Machine
end

