-- ==== Sys2Proof/Machine/Clock.lean ====
section
/-! DEFINITION. The epoch clock (chapter 3) and the tick: SYNC frames, the numbering of C, the closures of the
alignment buffer (R57 to R62) and the work a tick hands on (R42, R46). Also the commands EPOCH_REF_TICK,
HOLDOVER_EXPIRY, STALE_LIMIT, HOLDOFF_DONE, ACTION_RETRY and ACTION_TIMEOUT. -/

namespace Sys2Proof.Machine

/-! ## SYNC frames (R43, R44) -/

/-- The acceptance progress after a restart (R44). -/
def restartProgress : SyncMode → Progress
  | .every => .nothing
  | .nextOnly => .waiting
  | .skipOneThenEvery => .skipping
  | .off => .nothing

/-- Whether a SYNC frame is used, and the progress after it (R44). -/
def acceptSync : SyncMode → Progress → Bool × Progress
  | .every, p => (true, p)
  | .off, p => (false, p)
  | .nextOnly, .waiting => (true, .done)
  | .nextOnly, p => (false, p)
  | .skipOneThenEvery, .skipping => (false, .passing)
  | .skipOneThenEvery, p => (true, p)

/-- A well-formed SYNC frame handed to the clock (R43). -/
def handleSync (announced : Epoch) (s : State) : State :=
  let (used, progress) := acceptSync (syncMode s.settings) s.clock.progress
  s.modClock (fun k => { k with progress := progress, announce := if used then some announced else k.announce })

/-! ## The holdover timer (R37, R38) -/

/-- 1.5 epoch periods, in ms. -/
def longExpiry (w : Vector Word 4) : Nat := epochPeriod w * 3 / 2

def startTimer (ms : Nat) (s : State) : State := s.modClock (fun k => { k with timer := some ms })

/-! ## Numbering (R40, R41) -/

/-- Where a tick comes from. -/
inductive TickSource where
  | pulse
  | expiry
  deriving DecidableEq, Repr

/-- The clock state after a tick (R40). -/
def nextClockState : TickSource → ClockState → Option Epoch → ClockState
  | _, .unset, none => .unset
  | .pulse, _, _ => .run
  | .expiry, _, _ => .holdover

/-- C after a tick (R41). -/
def nextC : ClockState → Option Epoch → Epoch → Epoch
  | .unset, none, _ => 0
  | _, some n, _ => n
  | _, none, c => c + 1

/-- The tick is a clock step (R41): in UNSET no numbering is one. -/
def isStep : ClockState → Option Epoch → Epoch → Bool
  | .unset, _, _ => false
  | _, none, _ => false
  | _, some n, c => decide (n ≠ c + 1)

/-- The cause of the CLOCK_STATE record of a tick, if it raises one (R47). -/
def clockCause (step : Bool) : ClockState → ClockState → Option ClockCause
  | .unset, .unset => none
  | .unset, _ => some .numbered
  | .run, .holdover => some (if step then .step else .holdoverEntered)
  | .holdover, .run => some (if step then .step else .pulseRestored)
  | _, _ => if step then some .step else none

/-- The clock's report of a tick, from the clock before it and after it: CLOCK_STATE or nothing (R47). It takes no order
with the work of the other blocks (R42, R46, R171). -/
def clockWork (before after : EpochClock) (step : Bool) : List Work :=
  match clockCause step before.state after.state with
  | none => []
  | some cause =>
    [.clockState (.clockState before.state after.state (if before.state = .unset then 0 else before.c) after.c cause)]

/-- The clock's own part of a tick: state, number, timer (R37, R38, R40, R41). -/
def numberTick (source : TickSource) (s : State) : State :=
  let ms := match source with
    | .pulse => longExpiry s.settings
    | .expiry => epochPeriod s.settings
  s.modClock (fun k =>
    { k with c := nextC k.state k.announce k.c, state := nextClockState source k.state k.announce
             announce := none, timer := some ms })

/-! ## The alignment buffer at a tick (R57 to R61) -/

/-- The closure target C − L (R57). -/
def closureTarget (s : State) : Epoch := s.clock.c - BitVec.ofNat 16 (allowanceL s.settings)

/-- The epochs closed at a tick that is no clock step, in order (R57, R60). -/
def epochsToClose (s : State) : List Epoch :=
  match s.closureMark with
  | none => [closureTarget s]
  | some mark =>
    (List.range (serialDiff mark (closureTarget s)).toNat).map (fun i => mark + BitVec.ofNat 16 (i + 1))

/-- The sections that evaluate, as they stand when the tick is handed on. -/
def evaluating (s : State) : List SectionNo := allSections.filter (fun n => s.sections[n].mode.evaluates)

/-- The evaluations with which a section goes on after its forced evaluation at the closure of epoch X (R86). A section
whose next epoch lies after X makes no forced evaluation there, and does not go on. -/
def goesOn (x : Epoch) (n : SectionNo) (s : State) : List Work :=
  if atOrBefore s.sections[n].next x then evaluations n else []

/-- The forced evaluations of sections at the closure of epoch X, and then the rest of the closures. The evaluations
with which a section goes on come after its own forced evaluation, in any interleaving with what follows it (R57,
R84). -/
def forceThread (x : Epoch) : List SectionNo → List Work → State → List Work × State
  | [], rest, s => (rest, s)
  | n :: more, rest, s =>
    let (code, s) := nextOrder s
    let (after, s) := forceThread x more rest s
    (.force x n :: interleave code [goesOn x n s, after], s)

/-- The closures of the epochs given: for each, the forced evaluations of the sections in some order, the sections
going on after them, and the discard when all the forced evaluations are made (R57). -/
def closureThread : List Epoch → State → List Work × State
  | [], s => ([.discardBehind], s)
  | x :: rest, s =>
    let (code, s) := nextOrder s
    let (more, s) := closureThread rest s
    forceThread x (arrange code (evaluating s)) (.discard x :: more) s

/-! ## The work a tick hands on (R42, R46) -/

/-- The arming tests of a tick: the sections in ARMING (R74). -/
def armingWork (s : State) : List Work :=
  (allSections.filter (fun n => decide (s.sections[n].mode = .arming))).map Work.arm

/-- The stale counting of a tick: the slots in LOCKED or STALE (R33). -/
def staleWork (s : State) : List Work :=
  (allSlots.filter (fun m => decide (s.slots[m].stream = .locked ∨ s.slots[m].stream = .stale))).map Work.stale

/-- The MEMBER_RESYNC tests of a tick: the sections that evaluate (R125). -/
def resyncWork (s : State) : List Work := (evaluating s).map Work.resyncTest

/-- Each piece of work a thread of its own. -/
def apart (l : List Work) : List (List Work) := l.map (fun w => [w])

/-- The tick work of all blocks at an ordinary tick, the clock's report among it (R42, R47). -/
def tickWork (clock : List Work) (s : State) : State :=
  let (closures, s) := closureThread (epochsToClose s) s
  runWork (clock :: closures :: [.actionTick] :: apart (armingWork s ++ staleWork s ++ resyncWork s)) s

/-- The step work and the tick work at a clock step of offset k, the clock's report among it (R46, R47, R61). -/
def stepWork (clock : List Work) (k : Epoch) (s : State) : State :=
  runWork
    (clock :: [.bufferStep (closureTarget s)] :: [.actionStep k, .actionTick] ::
      apart ((evaluating s).map (Work.sectionStep s.clock.c k) ++ armingWork s ++ staleWork s ++ resyncWork s)) s

/-- A tick (R37 to R42, R46). -/
def tick (source : TickSource) (s : State) : State :=
  let t := numberTick source s
  let step := isStep s.clock.state s.clock.announce s.clock.c
  let clock := clockWork s.clock t.clock step
  if clockSet t then if step then stepWork clock (t.clock.c - (s.clock.c + 1)) t else tickWork clock t
  else t

/-! ## Meanings

A tick does all its work in one step (R42, R142). The four commands after the ticks are the pieces of that work, and
of an evaluation, which the opcode table lists as events of their own: each makes its event where its condition holds
in the state as it stands, and nothing where it does not (log entry 11). -/

/-- EPOCH_REF_TICK (R37). TAG is read as it stands at the send slot (R13). -/
def execEpochRefTick (s : State) (tag : BitVec 10) : Host.Outcome State Fault Refusal :=
  whenRunning (tick .pulse) (readTag tag s)

/-- HOLDOVER_EXPIRY (R38). TAG likewise. -/
def execHoldoverExpiry (s : State) (tag : BitVec 10) : Host.Outcome State Fault Refusal :=
  whenRunning (tick .expiry) (readTag tag s)

/-- An event of a tick's work, which is handed on only while the clock is set (R42). -/
def whenClockSet (f : State → State) (s : State) : State := if clockSet s then f s else s

/-- STALE_LIMIT (R33). -/
def execStaleLimit (m : SlotNo) (s : State) : Host.Outcome State Fault Refusal :=
  whenRunning (whenClockSet (staleTest m)) s

/-- HOLDOFF_DONE (R76). -/
def execHoldoffDone (n : SectionNo) (s : State) : Host.Outcome State Fault Refusal := whenRunning (endHoldoff n) s

/-- ACTION_RETRY (R145). -/
def execActionRetry (n : SectionNo) (s : State) : Host.Outcome State Fault Refusal :=
  whenRunning (whenClockSet (fun s => if retryDue n s then retryAction n s else s)) s

/-- ACTION_TIMEOUT (R150). -/
def execActionTimeout (n : SectionNo) (s : State) : Host.Outcome State Fault Refusal :=
  whenRunning (whenClockSet (fun s => if timeoutDue n s then failAction n s else s)) s

end Sys2Proof.Machine
end

