-- ==== Sys2Proof/Machine/Ports.lean ====
section
/-! DEFINITION. The port interface (chapter 1): links, forwarding, the hand-off of received frames, and the two
transmitters with the assembly of REPORT frames and SUMMARY records (R174 to R176). -/

namespace Sys2Proof.Machine

/-! ## Links (R1) -/

def PortState.up (p : PortState) : Port → Bool
  | .field => p.fieldUp
  | .station => p.stationUp

/-- A port's link goes DOWN: a frame in transmission is abandoned (R1). -/
def PortState.linkDown (port : Port) (p : PortState) : PortState :=
  match port with
  | .field => { p with fieldUp := false, fieldTx := none }
  | .station => { p with stationUp := false, stationTx := none }

/-- A port's link comes UP (R1). -/
def PortState.linkUp (port : Port) (p : PortState) : PortState :=
  match port with
  | .field => { p with fieldUp := true }
  | .station => { p with stationUp := true }

/-! ## Forwarding and intake (R6 to R9) -/

/-- A frame joins the tail of a list that holds at most `cap`, or is lost (R8, R9). -/
def joinQueue {α : Type} (cap : Nat) (x : α) (q : List α) : List α := if q.length < cap then q ++ [x] else q

/-- A frame received at a port joins the forwarding queue towards the other port (R8). -/
def forwardFrom (port : Port) (bytes : List Byte) (s : State) : State :=
  s.modPort (fun p =>
    match port with
    | .field => { p with toStation := joinQueue Config.forwardingCapacity bytes p.toStation }
    | .station => { p with toField := joinQueue Config.forwardingCapacity bytes p.toField })

/-- A frame for the management unit joins the intake (R9). -/
def joinIntake (bytes : List Byte) (s : State) : State :=
  s.modPort (fun p => { p with intake := joinQueue Config.intakeCapacity bytes p.intake })

/-- The stream of a frame is VALID with CONSUME, so the frame is not forwarded (R6). -/
def consumed (stream : BitVec 16) (s : State) : Bool :=
  match lookup stream s with
  | none => false
  | some m => consumes s.slots[m].words

/-- A frame whose stream may be consumed, forwarded unless it is (R6). -/
def forwardUnlessConsumed (stream : BitVec 16) (bytes : List Byte) (s : State) : State :=
  if consumed stream s then s else forwardFrom .field bytes s

/-- A received frame at the field port (R5, R6). -/
def receiveField (bytes : List Byte) (s : State) : State :=
  match parseFrame bytes with
  | .measure f => handleMeasure f (forwardUnlessConsumed f.stream bytes s)
  | .describe f => handleDescribe f (forwardUnlessConsumed f.stream bytes s)
  | .foreign | .sync _ | .mgmt _ _ _ | .passing => forwardFrom .field bytes s

/-- A received frame at the station port (R5, R7, R9). -/
def receiveStation (bytes : List Byte) (s : State) : State :=
  match parseFrame bytes with
  | .sync announced => handleSync announced (forwardFrom .station bytes s)
  | .mgmt tag _ _ =>
    if tag = s.pins.tag.setWidth 16 then joinIntake bytes s else forwardFrom .station bytes s
  | .foreign | .measure _ | .describe _ | .passing => forwardFrom .station bytes s

/-- A frame arrives whole at a port (R1, R2). -/
def receiveFrame (port : Port) (fcsOk : Bool) (bytes : List Byte) (s : State) : State :=
  if s.port.up port ∧ ethernetOk fcsOk bytes then
    match port with
    | .field => receiveField bytes s
    | .station => receiveStation bytes s
  else s

/-! ## SUMMARY records (R175, R176) -/

/-- The detail of a SUMMARY: its originator's state as it stands (R176). -/
def summaryOf (o : Originator) (s : State) : Detail :=
  match o with
  | .device =>
    .summaryDevice s.clock.state s.clock.c s.clock.announce s.hazard s.mode s.imageStatus (alarmA s) (alarmB s)
  | .sec n =>
    let x := s.sections[n]
    .summarySection x.entry x.mode x.next x.incomplete s.conds[n] s.actions[n] s.missed[n]
  | .slot m =>
    let x := s.slots[m]
    .summarySlot x.entry (streamId x.words) x.stream x.sticky x.errors x.position

/-- One originator of the walk: its SUMMARY queued and its mark cleared, when the mark is set and there is room
(R175). -/
def summarize (s : State) (o : Originator) : State :=
  if s.report.owed o ∧ s.report.queue.length < Config.reportCapacity then
    let record : ReportRecord := { origin := o, epoch := recordEpoch s, detail := summaryOf o s }
    let r : ReportUnit := { s.report with queue := s.report.queue ++ [record] }
    s.setReport (r.clearOwed o)
  else s

/-- The free places filled with SUMMARY records, in the fixed order (R175). -/
def fillSummaries (s : State) : State := allOriginators.foldl summarize s

/-! ## The transmitters (R11, R12, R174) -/

/-- The station transmitter takes a frame, or becomes IDLE; on a DOWN link the frame is discarded (R1). -/
def sendStation (f : Option LineFrame) (s : State) : State :=
  s.modPort (fun p => { p with stationTx := if p.stationUp then f else none })

/-- The field transmitter likewise. -/
def sendField (f : Option LineFrame) (s : State) : State :=
  s.modPort (fun p => { p with fieldTx := if p.fieldUp then f else none })

/-- A REPORT frame taken: the oldest 1 to 8 records leave the queue, and the SUMMARY records follow (R174, R175). -/
def takeReport (s : State) : State :=
  let taken := s.report.queue.take Config.reportFrameRecords
  let frame := LineFrame.device (reportBytes taken s)
  fillSummaries
    (sendStation (some frame)
      (s.setReport { s.report with queue := s.report.queue.drop Config.reportFrameRecords }))

/-- The station transmitter, free, takes its next frame in the precedence of R11. -/
def takeStation (s : State) : State :=
  match s.port.replyHold with
  | some r =>
    sendStation (some (.device (replyBytes r s))) (s.modPort (fun p => { p with replyHold := none }))
  | none =>
    if s.report.queue.isEmpty then
      match s.port.toStation with
      | [] => sendStation none s
      | f :: rest => sendStation (some (.forwarded f)) (s.modPort (fun p => { p with toStation := rest }))
    else takeReport s

/-- The field transmitter, free, takes its next frame in the precedence of R12, in every device mode. So an ACTION frame
that still waits in the action list when SUSPEND is answered OK is sent in SUSPENDED, and several that wait may be sent
before the next tick: R12 and 1.6 (a device frame is never dropped) are read so, and the words of R142 on what leaves the
field port as words on what the send slot hands over (DEDUCED, log entry 37). -/
def takeField (s : State) : State :=
  match s.port.actionList with
  | f :: rest => sendField (some (.device f.bytes)) (s.modPort (fun p => { p with actionList := rest }))
  | [] =>
    match s.port.toField with
    | [] => sendField none s
    | f :: rest => sendField (some (.forwarded f)) (s.modPort (fun p => { p with toField := rest }))

/-! ## Meanings -/

/-- LINK_DOWN (R1). The link is the physical layer's, so it changes while RESET_N is low too. -/
def execLinkDown (port : Port) (s : State) : Host.Outcome State Fault Refusal :=
  .next (s.modPort (PortState.linkDown port))

/-- LINK_UP (R1). -/
def execLinkUp (port : Port) (s : State) : Host.Outcome State Fault Refusal :=
  .next (s.modPort (PortState.linkUp port))

/-- FRAME_RECEIVED (R2). TAG is read as it stands at the arrival (R7); while RESET_N is low the frame is lost (R14). -/
def execFrameReceived (port : Port) (tag : BitVec 10) (fcsOk : Bool) (bytes : List Byte) (s : State) :
    Host.Outcome State Fault Refusal :=
  whenRunning (receiveFrame port fcsOk bytes) (readTag tag s)

/-- STATION_TRANSMITTER_TAKE (R11). TAG is read as it stands at the taking (R13, R174). -/
def execStationTransmitterTake (s : State) (tag : BitVec 10) : Host.Outcome State Fault Refusal :=
  whenRunning takeStation (readTag tag s)

/-- FIELD_TRANSMITTER_TAKE (R12). -/
def execFieldTransmitterTake (s : State) : Host.Outcome State Fault Refusal := whenRunning takeField s

end Sys2Proof.Machine
end

