-- ==== Sys2Proof/Machine/Tables.lean ====
section
/-! DEFINITION. Table space (11.3 to 11.5): validation of entries (R17, R70, R117, R195), the writing of words with
entry to LOADING and commit (R16, R69, R116, R184), the tests of a WRITE (R183), the device settings (R185, R62), and
the words a READ returns (R182). -/

namespace Sys2Proof.Machine

/-! ## Validation (R17, R70, R117, R195) -/

/-- The reason of the first check that fails, or the given value when none does. -/
def firstFailure {α : Type} (good : α) : List (Bool × α) → α
  | [] => good
  | (holds, reason) :: rest => if holds then firstFailure good rest else reason

/-- No number stands twice in a list. -/
def distinct (l : List Nat) : Bool := decide l.Nodup

/-- The bits of a byte mask above the kinds its table gives are clear (R195). -/
def maskOk (w : Word) (lo width : Nat) : Bool := decide (bits w lo width = 0)

/-- Another VALID entry holds the stream identifier (R17 check 6). -/
def identifierTaken (m : SlotNo) (stream : BitVec 16) (s : State) : Bool :=
  allSlots.any (fun j =>
    decide (j ≠ m) && decide (s.slots[j].entry = .valid) && decide (streamId s.slots[j].words = stream))

/-- Validation of a stream entry (R17). -/
def validateStream (m : SlotNo) (s : State) : StreamReason :=
  let w := s.slots[m].words
  firstFailure .good
    [(allQuantities.all (fun q => decide (mapField w q ≤ 7) || decide (mapField w q = 15)) && maskOk w[4] 6 2 &&
        maskOk w[5] 6 2, .badField),
     (streamIdOk (streamId w), .badIdentifier),
     (decide (1 ≤ staleLimit w) && decide (staleLimit w ≤ 63), .badStaleLimit),
     (distinct (mappedIndices w), .mapConflict),
     ((mapIndex w .ia).isSome || (mapIndex w .ib).isSome || (mapIndex w .ic).isSome, .noCurrent),
     (!identifierTaken m (streamId w) s, .duplicateId)]

/-- A slot field with NONE allowed (R195). -/
def optSlotFieldOk (k : Nat) : Bool := decide (k ≤ 63) || decide (k = 255)

/-- A profile of a section entry is held by a VALID profile entry (R70 check 5). -/
def profileValid (k : Nat) (s : State) : Bool := decide (s.profiles[(Fin.ofNat 8 k : ProfileNo)].entry = .valid)

/-- Validation of a section entry (R70). -/
def validateSection (n : SectionNo) (s : State) : SectionReason :=
  let w := s.sections[n].words
  let downs := (downstreamFields w).take (downstreamCount w)
  firstFailure .good
    [(decide (upstreamField w ≤ 63) && optSlotFieldOk (voltageField w) && optSlotFieldOk (switchField w) &&
        (decide (backupField w ≤ 31) || decide (backupField w = 255)) && decide (downstreamCount w ≤ 6) &&
        downs.all (fun k => decide (k ≤ 63)) && decide (normalField w ≤ 7) && decide (elevatedField w ≤ 7), .badField),
     (allPhases.all (fun p => decide (loadAllowance w p ≤ 4095)), .badAllowance),
     (distinct (upstreamField w :: downs), .memberConflict),
     (decide (backupField w ≠ n.val), .badBackup),
     (profileValid (normalField w) s && profileValid (elevatedField w) s, .profileNotValid)]

/-- A number lies in a range. -/
def inRange (lo hi k : Nat) : Bool := decide (lo ≤ k) && decide (k ≤ hi)

/-- Validation of a profile entry's words (R117). -/
def validateProfile (w : Vector Word 12) : ProfileReason :=
  firstFailure .good
    [(maskOk w[7] 4 4 && maskOk w[8] 6 2, .badField),
     (inRange 0 4095 (Prof.pickup w) && inRange 0 63 (Prof.slope w) && inRange 1 65535 (Prof.excessCap w) &&
        inRange 0 255 (Prof.leak w) && inRange 1 65535 (Prof.tripLevel w) && inRange 1 4095 (Prof.burst w) &&
        inRange 4 32 (Prof.windowLen w) && inRange 0 32 (Prof.irrRequired w) && inRange 0 4095 (Prof.openFloor w) &&
        inRange 0 4095 (Prof.loadFloor w) && inRange 1 255 (Prof.openPersist w) &&
        inRange 0 32767 (Prof.vCollapse w) && inRange 0 32767 (Prof.vHealthy w) &&
        inRange 1 63 (Prof.blindAfter w) && inRange 0 255 (Prof.holdoffEpochs w) && inRange 1 4 (Prof.attempts w) &&
        inRange 1 63 (Prof.retryEpochs w) && inRange 1 255 (Prof.confirmTimeout w), .badRange),
     (decide (Prof.irrRequired w ≤ Prof.windowLen w), .irrExceedsWindow),
     (decide (Prof.retryEpochs w ≤ Prof.confirmTimeout w), .retryExceedsTimeout)]

/-! ## Commit and entry to LOADING -/

/-- The last word of a stream entry written: the entry is committed (R16, R17, R19). -/
def commitStream (m : SlotNo) (s : State) : State :=
  let reason := validateStream m s
  if reason = .good then startStream m (s.modSlot m (fun x => { x with entry := .valid, reason := .good }))
  else s.modSlot m (fun x => { x with entry := .invalid, reason := reason })

/-- The first word of a stream entry is about to be written: the entry enters LOADING (R16, R34). -/
def loadStream (m : SlotNo) (s : State) : State :=
  (if s.slots[m].entry = .valid then stopStream m s else s).modSlot m
    (fun x => { x with entry := .loading, reason := .good })

/-- The last word of a profile entry written (R116, R117). -/
def commitProfile (p : ProfileNo) (s : State) : State :=
  s.modProfile p (fun x =>
    { x with entry := if validateProfile x.words = .good then .valid else .invalid, reason := validateProfile x.words })

/-- A profile entry enters LOADING (R116). -/
def loadProfile (p : ProfileNo) (s : State) : State :=
  s.modProfile p (fun x => { x with entry := .loading, reason := .good })

/-- The last word of a section entry written (R69, R70, R72). -/
def commitSection (n : SectionNo) (s : State) : State :=
  let reason := validateSection n s
  if reason = .good then startSection n (s.modSection n (fun x => { x with entry := .valid, reason := .good }))
  else s.modSection n (fun x => { x with entry := .invalid, reason := reason })

/-- A section entry enters LOADING (R69, R73). -/
def loadSection (n : SectionNo) (s : State) : State :=
  (if s.sections[n].entry = .valid then stopSection n s else s).modSection n
    (fun x => { x with entry := .loading, reason := .good })

/-! ## One word written (R184) -/

/-- A word of a table region, by the entry it belongs to and its place in the entry (11.3). -/
inductive TableWord where
  | settings (k : Fin 4)
  | stream (m : SlotNo) (k : Fin 6)
  | profile (p : ProfileNo) (k : Fin 12)
  | sec (n : SectionNo) (k : Fin 6)
  deriving DecidableEq, Repr

/-- The table word at an address (11.3). -/
def tableWordAt (a : Nat) : Option TableWord :=
  if a ≤ 0x0003 then some (.settings (Fin.ofNat 4 a))
  else if 0x0100 ≤ a ∧ a ≤ 0x027F then
    some (.stream (Fin.ofNat 64 ((a - 0x0100) / 6)) (Fin.ofNat 6 ((a - 0x0100) % 6)))
  else if 0x0300 ≤ a ∧ a ≤ 0x035F then
    some (.profile (Fin.ofNat 8 ((a - 0x0300) / 12)) (Fin.ofNat 12 ((a - 0x0300) % 12)))
  else if 0x0400 ≤ a ∧ a ≤ 0x04BF then
    some (.sec (Fin.ofNat 32 ((a - 0x0400) / 6)) (Fin.ofNat 6 ((a - 0x0400) % 6)))
  else none

/-- The region of a table word, as a number. -/
def TableWord.region : TableWord → Nat
  | .settings _ => 0
  | .stream _ _ => 1
  | .profile _ _ => 2
  | .sec _ _ => 3

/-- The word is the first of its entry (R183 test 3). -/
def TableWord.first : TableWord → Bool
  | .settings k => decide (k = 0)
  | .stream _ k => decide (k = 0)
  | .profile _ k => decide (k = 0)
  | .sec _ k => decide (k = 0)

/-- The word is the last of its entry (R184). -/
def TableWord.last : TableWord → Bool
  | .settings k => decide (k.val = 3)
  | .stream _ k => decide (k.val = 5)
  | .profile _ k => decide (k.val = 11)
  | .sec _ k => decide (k.val = 5)

/-- A profile word as it is stored: the held positions of the report mask set (R116). -/
def storedProfileWord (k : Fin 12) (v : Word) : Word := if k.val = 8 then v ||| heldReportMask else v

/-- One word of the stream, profile or section region written: the first word of an entry puts it into LOADING, the
last commits it (R184). The settings words are written together by `writeSettings`. -/
def writeWord (t : TableWord) (v : Word) (s : State) : State :=
  match t with
  | .settings _ => s
  | .stream m k =>
    let s := if t.first then loadStream m s else s
    let s := s.modSlot m (fun x => { x with words := x.words.set k v })
    if t.last then commitStream m s else s
  | .profile p k =>
    let s := if t.first then loadProfile p s else s
    let s := s.modProfile p (fun x => { x with words := x.words.set k (storedProfileWord k v) })
    if t.last then commitProfile p s else s
  | .sec n k =>
    let s := if t.first then loadSection n s else s
    let s := s.modSection n (fun x => { x with words := x.words.set k v })
    if t.last then commitSection n s else s

/-! ## The device settings (R185, R36, R62) -/

/-- Every field of four settings words holds a value of R185 (R183 test 6, R195): L is 1 to 12, and the other fields
have no code outside their values. -/
def settingsOk (w : Vector Word 4) : Bool := inRange 1 12 (allowanceL w)

/-- The settings words a WRITE carries. -/
def settingsOf (words : List Word) : Vector Word 4 :=
  #v[words.getD 0 0, words.getD 1 0, words.getD 2 0, words.getD 3 0]

/-- The settings entry written whole: all six fields at once, the acceptance progress restarted (R36, R44), and the
records behind a lowered window discarded (R62). -/
def writeSettings (w : Vector Word 4) (s : State) : State :=
  let lowered := decide (allowanceL w < allowanceL s.settings)
  let s := ({ s with settings := w } : State).modClock (fun k => { k with progress := restartProgress (syncMode w) })
  if lowered then s.mapRings (discardThrough (s.clock.c - BitVec.ofNat 16 (allowanceL w))) else s

/-! ## The tests of a WRITE (R183) -/

/-- A profile is in use: a section whose entry is VALID names it (R118). -/
def profileInUse (p : ProfileNo) (s : State) : Bool :=
  allSections.any (fun n =>
    decide (s.sections[n].entry = .valid) &&
    (decide (profileAt s.sections[n].words .normal = p) || decide (profileAt s.sections[n].words .elevated = p)))

/-- Writing this word is refused: its profile is in use, or its section's action is in flight (R183 tests 7 and 8). -/
def wordRefused (t : TableWord) (s : State) : Option ResultCode :=
  match t with
  | .profile p _ => if profileInUse p s then some .inUse else none
  | .sec n _ => if inFlight n s then some .busy else none
  | .settings _ | .stream _ _ => none

/-- The words from an address on, as table words. -/
def tableWordsFrom (a k : Nat) : List (Option TableWord) := (List.range k).map (fun i => tableWordAt (a + i))

/-- The tests of R183 in order; `none` when all hold. -/
def writeRefusal (a : Nat) (words : List Word) (s : State) : Option ResultCode :=
  if words.length = 0 ∨ Config.maxRequestWords < words.length then some .badLength
  else
    match tableWordAt a with
    | none => some .badAddress
    | some t =>
      if !t.first then some .badAddress
      else if t.region = 0 ∧ words.length ≠ 4 then some .badLength
      else
        match tableWordAt (a + words.length - 1) with
        | none => some .badAddress
        | some l =>
          if l.region ≠ t.region then some .badAddress
          else if t.region = 0 ∧ !settingsOk (settingsOf words) then some .badValue
          else (tableWordsFrom a words.length).findSome? (fun o => o.bind (fun u => wordRefused u s))

/-! ## A WRITE under way (R184) -/

/-- What one word of a WRITE under way comes to. -/
inductive WriteStep where
  | more (w : TableWrite)
  | ended (code : ResultCode) (committed : Nat)
  deriving DecidableEq, Repr

/-- The next word of a WRITE under way. A WRITE that reaches the first word of an entry whose section's action has
come into flight ends there with BUSY (R69, R184). -/
def writeNext (w : TableWrite) (s : State) : State × WriteStep :=
  match w.words, tableWordAt w.address with
  | [], _ => (s, .ended .ok w.committed)
  | _ :: _, none => (s, .ended .badAddress w.committed)
  | v :: rest, some t =>
    if t.first ∧ wordRefused t s = some .busy then (s, .ended .busy w.committed)
    else
      let committed := if t.last then w.committed + 1 else w.committed
      let s := writeWord t v s
      if rest.isEmpty then (s, .ended .ok committed)
      else (s, .more { address := w.address + 1, words := rest, committed := committed })

/-- A WRITE carried to its end. -/
def writeAll : Nat → TableWrite → State → State × (ResultCode × Nat)
  | 0, w, s => (s, (.ok, w.committed))
  | fuel + 1, w, s =>
    match writeNext w s with
    | (s, .ended code committed) => (s, (code, committed))
    | (s, .more w) => writeAll fuel w s

/-- A WRITE from its tests to its end (R183 to R185). The settings entry has no entry state and is committed to none,
so it is not counted (log entry 10). -/
def performWrite (a : Nat) (words : List Word) (s : State) : State × (ResultCode × Nat) :=
  match writeRefusal a words s with
  | some code => (s, (code, 0))
  | none =>
    if a = 0 then (writeSettings (settingsOf words) s, (.ok, 0))
    else writeAll (words.length + 1) { address := a, words := words, committed := 0 } s

/-! ## The words a READ returns (R182) -/

/-- A word of table space as a READ sees it; `none` where the address is unmapped (11.3). -/
def readWord (a : Nat) (s : State) : Option Word :=
  match tableWordAt a with
  | some (.settings k) => some s.settings[k]
  | some (.stream m k) => some s.slots[m].words[k]
  | some (.profile p k) => some s.profiles[p].words[k]
  | some (.sec n k) => some s.sections[n].words[k]
  | none =>
    if 0x1000 ≤ a ∧ a ≤ 0x1003 then some (deviceStatusWord (a - 0x1000) s)
    else if 0x1100 ≤ a ∧ a ≤ 0x117F then
      some (streamStatusWord (Fin.ofNat 64 ((a - 0x1100) / 2)) ((a - 0x1100) % 2) s)
    else if 0x1200 ≤ a ∧ a ≤ 0x12FF then
      some (sectionStatusWord (Fin.ofNat 32 ((a - 0x1200) / 8)) ((a - 0x1200) % 8) s)
    else if 0x1400 ≤ a ∧ a ≤ 0x147F then
      some (actionWord (Fin.ofNat 32 ((a - 0x1400) / 4)) ((a - 0x1400) % 4) s)
    else if 0x1800 ≤ a ∧ a ≤ 0x19FF then
      some (captureWord s.captures[(Fin.ofNat 4 ((a - 0x1800) / 128) : CaptureNo)] ((a - 0x1800) % 128))
    else none

/-- An address lies in a capture buffer that is FILLING (R166). -/
def inFillingCapture (a : Nat) (s : State) : Bool :=
  decide (0x1800 ≤ a) && decide (a ≤ 0x19FF) &&
  decide (s.captures[(Fin.ofNat 4 ((a - 0x1800) / 128) : CaptureNo)].state = .filling)

/-- The words of a READ, in ascending address order; `none` where one of them is unmapped (R182). -/
def readWords (a : Nat) : Nat → State → Option (List Word)
  | 0, _ => some []
  | k + 1, s =>
    match readWord a s, readWords (a + 1) k s with
    | some w, some rest => some (w :: rest)
    | _, _ => none

end Sys2Proof.Machine
end

