-- ==== Sys2Proof/Machine/Management.lean ====
section
/-! DEFINITION. The management unit (chapter 11): each request and its result, the execution of a MGMT frame piece by
piece (R180, R184), and the commands READ to IDENTIFY and MGMT_FRAME_TAKEN. -/

namespace Sys2Proof.Machine

/-! ## Request codes (12.3) -/

def readCode : Byte := 1
def writeCode : Byte := 2
def setPermitCode : Byte := 4
def restoreCode : Byte := 5
def clearConditionsCode : Byte := 6
def clearStreamCode : Byte := 7
def releaseCaptureCode : Byte := 8
def suspendCode : Byte := 9
def resumeCode : Byte := 10
def restartCode : Byte := 11
def identifyCode : Byte := 12

/-! ## The requests -/

/-- READ (R182, R166). -/
def requestRead (a : BitVec 16) (count : Byte) (s : State) : Answer :=
  if count.toNat = 0 ∨ Config.maxRequestWords < count.toNat then answer .badLength s
  else
    match readWords a.toNat count.toNat s with
    | none => answer .badAddress s
    | some words =>
      if (List.range count.toNat).any (fun i => inFillingCapture (a.toNat + i) s) then answer .notReady s
      else (s, (.ok, (words.map bytes32).flatten))

/-- WRITE (R183 to R185); the reply carries the number of entries committed with every code (12.3). -/
def requestWrite (a : BitVec 16) (words : List Word) (s : State) : Answer :=
  let done := performWrite a.toNat words s
  (done.1, (done.2.1, [byteOf done.2.2]))

/-- The section a parameter byte names, if it is 0 to 31. -/
def sectionOf (b : Byte) : Option SectionNo := if h : b.toNat < 32 then some ⟨b.toNat, h⟩ else none

/-- The isolate permit set in place: bit 16 of section word 3 (R140, R195). -/
def setPermitBit (n : SectionNo) (on : Bool) (s : State) : State :=
  s.modSection n (fun x =>
    { x with words := x.words.set 3 (if on then x.words[3] ||| 0x00010000 else x.words[3] &&& 0xFFFEFFFF) })

/-- SET_PERMIT (R140). -/
def requestSetPermit (sec value : Byte) (s : State) : Answer :=
  match sectionOf sec with
  | none => answer .badValue s
  | some n =>
    if 1 < value.toNat ∨ s.sections[n].entry ≠ .valid then answer .badValue s
    else if value = 1 then answer .ok (releaseHeld n (setPermitBit n true s))
    else answer .ok (setPermitBit n false s)

/-- RESTORE (R82). -/
def requestRestore (sec : Byte) (s : State) : Answer :=
  match sectionOf sec with
  | none => answer .badValue s
  | some n => if s.sections[n].mode = .latched then answer .ok (restoreSection n s) else answer .badValue s

/-- The accumulators and windows of a section cleared (R112). -/
def clearDowned (n : SectionNo) (s : State) : State :=
  s.modSection n (fun x => { x with phases := x.phases.map (fun p => { p with acc := 0, window := [] }) })

/-- The open counts of a section cleared (R113). -/
def clearOpened (n : SectionNo) (s : State) : State :=
  s.modSection n (fun x => { x with phases := x.phases.map (fun p => { p with openCount := 0 }) })

/-- The clearing of the named kinds of one section, one event (R131). -/
def clearNamed (n : SectionNo) (kinds : Byte) (s : State) : State :=
  let named := latchedKinds.filter (fun k => kinds.getLsbD k.bit)
  let s := named.foldl (clearKind n .clearRequest) s
  let s := if .downed ∈ named then clearDowned n s else s
  let s := if .opened ∈ named then clearOpened n s else s
  named.foldl (tellLatchedCleared n .clearRequest) s

/-- CLEAR_CONDITIONS (R131). -/
def requestClearConditions (sec kinds : Byte) (s : State) : Answer :=
  match sectionOf sec with
  | none => answer .badValue s
  | some n => if 64 ≤ kinds.toNat then answer .badValue s else answer .ok (clearNamed n kinds s)

/-- CLEAR_STREAM (R25). -/
def requestClearStream (slot : Byte) (s : State) : Answer :=
  if h : slot.toNat < 64 then
    let m : SlotNo := ⟨slot.toNat, h⟩
    if s.slots[m].entry = .valid then
      answer .ok (s.modSlot m (fun x => { x with sticky := ErrorFlags.clear, errors := 0 }))
    else answer .ok s
  else answer .badValue s

/-- RELEASE_CAPTURE (R167). -/
def requestReleaseCapture (index : Byte) (s : State) : Answer :=
  if h : index.toNat < 4 then
    let i : CaptureNo := ⟨index.toNat, h⟩
    if s.captures[i].state = .filling then answer .notReady s
    else answer .ok (clearMissed (s.setCapture i Capture.cleared))
  else answer .badValue s

/-- SUSPEND (R156). -/
def requestSuspend (s : State) : Answer :=
  if anyInFlight s then answer .actionBusy s else answer .ok { s with mode := .suspended }

/-- RESUME (R156, R139). -/
def requestResume (s : State) : Answer := answer .ok (releaseAllHeld { s with mode := .active })

/-- The dynamic state of every block at its start condition, the tables kept (R187). -/
def restartBlocks (s : State) : State :=
  { s with
    slots := s.slots.map (fun x =>
      if x.entry = .valid then x.fresh .acquiring else { x with ring := emptyRing })
    sections := s.sections.map (fun x => if x.entry = .valid then x.fresh .arming else x)
    conds := Vector.replicate 32 ConditionSet.empty
    actions := Vector.replicate 32 ActionRecord.none
    captures := Vector.replicate 4 Capture.cleared
    missed := Vector.replicate 32 false
    report := ReportUnit.empty }

/-- RESTART (R187). -/
def requestRestart (s : State) : Answer :=
  if anyInFlight s then answer .actionBusy s else answer .ok (restartBlocks s)

/-- The image identity IDENTIFY gives: NONE unless an image was applied (R188). -/
def shownIdentity (s : State) : Option Word :=
  match s.imageStatus with
  | .applied | .appliedWithErrors => s.imageIdentity
  | .noImage | .rejected => none

/-- IDENTIFY (R188, 12.3). With no identity the presence byte is 0, and the four bytes of the identity are 0 as R193 has
it for a NONE field (DEDUCED, log entry 33). -/
def requestIdentify (s : State) : Answer :=
  let id := shownIdentity s
  (s, (.ok,
    bytes16 (BitVec.ofNat 16 Config.partCode) ++ [byteOf Config.revision, 64, 8, 32, 4, byteOf s.imageStatus.code] ++
      byteOf (bit id.isSome) :: bytes32 (id.getD 0) ++ bytes16 (s.pins.tag.setWidth 16)))

/-! ## A request as a MGMT frame carries it (R180, R194) -/

/-- Words of 4 bytes, high byte first (R194). -/
def readWordsOf : List Byte → List Word
  | a :: b :: c :: d :: rest => ((a ++ b ++ c ++ d : BitVec 32)) :: readWordsOf rest
  | _ => []

/-- The data a refused request carries: a WRITE its entry count 0, any other nothing (12.3). -/
def refusalData (code : Byte) : List Byte := if code = writeCode then [0] else []

/-- A request other than WRITE, by its code and parameters (R194). A parameter length other than that of 12.3 is
BAD_LENGTH for READ and BAD_VALUE for every other request. -/
def runRequest (q : RawRequest) (s : State) : Answer :=
  match q.code.toNat, q.params with
  | 1, [h, l, count] => requestRead (be16 h l) count s
  | 1, _ => answer .badLength s
  | 3, [level] => requestSetHazard level s
  | 4, [sec, value] => requestSetPermit sec value s
  | 5, [sec] => requestRestore sec s
  | 6, [sec, kinds] => requestClearConditions sec kinds s
  | 7, [slot] => requestClearStream slot s
  | 8, [index] => requestReleaseCapture index s
  | 9, [] => requestSuspend s
  | 10, [] => requestResume s
  | 11, [] => requestRestart s
  | 12, [] => requestIdentify s
  | _, _ => answer .badValue s

/-- The address and words of a WRITE request, when its parameter length is 2 + 4w (R194). -/
def writeOperands : List Byte → Option (BitVec 16 × List Word)
  | h :: l :: rest => if rest.length % 4 = 0 then some (be16 h l, readWordsOf rest) else none
  | _ => none

/-! ## The execution of a MGMT frame (R9, R180, R184) -/

/-- One word of the WRITE under way. -/
def pieceOfWrite (e : MgmtExec) (w : TableWrite) (s : State) : State :=
  match writeNext w s with
  | (s, .more w) => { s with executing := some { e with writing := some w } }
  | (s, .ended code committed) =>
    { s with executing := some ({ e with writing := none }.result writeCode code [byteOf committed]) }

/-- A WRITE request begun: its tests, and its first word or its whole settings write (R183 to R185). -/
def beginWrite (e : MgmtExec) (params : List Byte) (s : State) : State :=
  match writeOperands params with
  | none => { s with executing := some (e.result writeCode .badLength [0]) }
  | some (a, words) =>
    match writeRefusal a.toNat words s with
    | some code => { s with executing := some (e.result writeCode code [0]) }
    | none =>
      if a = 0 then
        let t := writeSettings (settingsOf words) s
        { t with executing := some (e.result writeCode .ok [0]) }
      else pieceOfWrite e { address := a.toNat, words := words, committed := 0 } s

/-- One piece of the execution of a frame: one word of a WRITE under way, or the next request, or, when all are done,
the reply placed in the reply hold. In STARTING every request is answered NOT_READY (R180). -/
def executePiece (e : MgmtExec) (s : State) : State :=
  match e.writing, e.todo with
  | some w, _ => pieceOfWrite e w s
  | none, [] =>
    ({ s with executing := none } : State).modPort (fun p =>
      { p with replyHold := some { dest := e.dest, tag := s.pins.tag, results := e.results } })
  | none, q :: rest =>
    let e := { e with todo := rest }
    if e.mode = .starting then { s with executing := some (e.result q.code .notReady (refusalData q.code)) }
    else if q.code = writeCode then beginWrite e q.params s
    else
      match runRequest q s with
      | (s, (code, data)) => { s with executing := some (e.result q.code code data) }

/-- Pieces of the execution done, at most `k`. -/
def executePieces : Nat → State → State
  | 0, s => s
  | k + 1, s =>
    match s.executing with
    | none => s
    | some e => executePieces k (executePiece e s)

/-- A bound on the pieces an execution still needs: a request of n parameter bytes takes at most n + 1. -/
def MgmtExec.pieces (e : MgmtExec) : Nat :=
  1 + (e.todo.map (fun q => q.params.length + 1)).sum +
  (match e.writing with
   | none => 0
   | some w => w.words.length + 1)

/-- The execution under way carried to its end. -/
def finishExecution (s : State) : State :=
  match s.executing with
  | none => s
  | some e => executePieces e.pieces s

/-- The management unit takes the oldest intake frame, when no frame is being executed and the reply hold is empty,
and reads the device mode once (R9, R180). -/
def takeMgmtFrame (s : State) : State :=
  match s.executing, s.port.replyHold, s.port.intake with
  | none, none, bytes :: rest =>
    let s := s.modPort (fun p => { p with intake := rest })
    match parseFrame bytes with
    | .mgmt _ source requests =>
      let e : MgmtExec := { dest := source, mode := s.mode, todo := requests, results := [], writing := none }
      { s with executing := some e }
    | .foreign | .measure _ | .describe _ | .sync _ | .passing => s
  | _, _, _ => s

/-- MGMT_FRAME_TAKEN: a frame is taken if one can be, and its execution carried to its end, or `k` pieces on. -/
def mgmtFrame (pieces : Option Nat) (s : State) : State :=
  let s := takeMgmtFrame s
  match pieces with
  | none => finishExecution s
  | some k => executePieces k s

/-! ## A request sent as a command of its own -/

/-- A request executed on its own: a frame under way is first carried to its end, since no two requests are taken
together (R180); in STARTING it is answered NOT_READY. Its result is kept (log entry 7). -/
def runAlone (code : Byte) (f : State → Answer) (s : State) : State :=
  let s := finishExecution s
  let a : Answer := if s.mode = .starting then (s, (.notReady, refusalData code)) else f s
  { a.1 with lastResult := some { request := code, code := a.2.1, data := a.2.2 } }

/-! ## Meanings -/

/-- MGMT_FRAME_TAKEN (R180). TAG is read as it stands (R9). -/
def execMgmtFrameTaken (pieces : Option Nat) (s : State) (tag : BitVec 10) : Host.Outcome State Fault Refusal :=
  whenRunning (mgmtFrame pieces) (readTag tag s)

/-- READ (R182). -/
def execRead (a : BitVec 16) (count : Byte) (s : State) : Host.Outcome State Fault Refusal :=
  whenRunning (runAlone readCode (requestRead a count)) s

/-- WRITE (R184). -/
def execWrite (a : BitVec 16) (words : List Word) (s : State) : Host.Outcome State Fault Refusal :=
  whenRunning (runAlone writeCode (requestWrite a words)) s

/-- SET_HAZARD (R119). -/
def execSetHazard (level : Byte) (s : State) : Host.Outcome State Fault Refusal :=
  whenRunning (runAlone setHazardCode (requestSetHazard level)) s

/-- SET_PERMIT (R140). -/
def execSetPermit (sec value : Byte) (s : State) : Host.Outcome State Fault Refusal :=
  whenRunning (runAlone setPermitCode (requestSetPermit sec value)) s

/-- RESTORE (R82). -/
def execRestore (sec : Byte) (s : State) : Host.Outcome State Fault Refusal :=
  whenRunning (runAlone restoreCode (requestRestore sec)) s

/-- CLEAR_CONDITIONS (R131). -/
def execClearConditions (sec kinds : Byte) (s : State) : Host.Outcome State Fault Refusal :=
  whenRunning (runAlone clearConditionsCode (requestClearConditions sec kinds)) s

/-- CLEAR_STREAM (R25). -/
def execClearStream (slot : Byte) (s : State) : Host.Outcome State Fault Refusal :=
  whenRunning (runAlone clearStreamCode (requestClearStream slot)) s

/-- RELEASE_CAPTURE (R167). -/
def execReleaseCapture (index : Byte) (s : State) : Host.Outcome State Fault Refusal :=
  whenRunning (runAlone releaseCaptureCode (requestReleaseCapture index)) s

/-- SUSPEND (R156). -/
def execSuspend (s : State) : Host.Outcome State Fault Refusal := whenRunning (runAlone suspendCode requestSuspend) s

/-- RESUME (R156). -/
def execResume (s : State) : Host.Outcome State Fault Refusal := whenRunning (runAlone resumeCode requestResume) s

/-- RESTART (R187). -/
def execRestart (s : State) : Host.Outcome State Fault Refusal := whenRunning (runAlone restartCode requestRestart) s

/-- IDENTIFY (R188). TAG is read as it stands at the request. -/
def execIdentify (s : State) (tag : BitVec 10) : Host.Outcome State Fault Refusal :=
  whenRunning (runAlone identifyCode requestIdentify) (readTag tag s)

end Sys2Proof.Machine
end

