-- ==== Sys2Proof/WellFormed.lean ====
section
/-! DEFINITION. Which commands could be sent at all. Almost every operand is a value the part itself tests (an out of
range section byte is answered BAD_VALUE); only the readings of the configuration memory carry a relation between
their words that the part's own way of reading gives (R197). -/

namespace Sys2Proof

/-- The words pass 1 reads: 0 to 3 + w when w is at most 4096, and up to the word count otherwise (R197). -/
def pass1Length (words : List Word) : Nat :=
  match words[2]? with
  | none => 3
  | some w => if w.toNat ≤ Config.maxImageWords then w.toNat + 4 else 3

/-- The number of data words a load record's header names (R197, 12.8). -/
def recordCount (header : Word) : Nat := header.toNat % 65536

/-- A command that its sender could send: pass 1 ends with every word it reads read (R197), and a load record is read
with no more data words than its header names. -/
def WellFormed : Instr → Bool
  | .imagePass1 words => words.length == pass1Length words
  | .loadRecord header data => decide (data.length ≤ recordCount header)
  | _ => true

end Sys2Proof
end

