-- ==== Sys2Proof/Machine/Startup.lean ====
section
/-! DEFINITION. Reset and start-up (11.8, 12.8): POWER_ON_RESET, RESET_RELEASE, IMAGE_PASS_1, LOAD_RECORD and
END_OF_START_UP. -/

namespace Sys2Proof.Machine

/-! ## Reset (R189) -/

/-- The links as they are, everything else of the ports at its reset value (R1, R14). -/
def PortState.afterReset (p : PortState) : PortState :=
  { PortState.start with fieldUp := p.fieldUp, stationUp := p.stationUp }

/-- Every block at its reset values, RESET_N low (R189). The pins, the links, the choices of order and the waiting
commands are the outside's and are kept. -/
def resetBlocks (s : State) : State :=
  { State.reset with
    pins := s.pins
    port := s.port.afterReset
    order := s.order
    orderIndex := s.orderIndex
    pending := s.pending }

/-! ## End of start-up (R192) -/

/-- The end of start-up (R192). -/
def endStartUp (s : State) : State :=
  releaseAllHeld { s with mode := .active, hazard := initialHazard s.settings, boot := .over }

/-! ## Release of RESET_N (R189) -/

/-- RESET_N goes high: BOOT_SEL and TAG are read, the acceptance progress restarts (R44), the holdover timer starts
(R38), and start-up ends at once or pass 1 begins (R189). -/
def release (bootSel : Bool) (tag : BitVec 10) (s : State) : State :=
  let s : State := { s with pins := { tag := tag, bootSel := bootSel }, boot := .pass1 }
  let s := startTimer (longExpiry s.settings) (s.modClock (fun k =>
    { k with progress := restartProgress (syncMode s.settings) }))
  if bootSel then s else endStartUp s

/-! ## Pass 1 (R190, R197) -/

/-- The sum of words mod 2³². -/
def wordSum (l : List Word) : Word := l.foldl (fun a w => a + w) 0

/-- The image's mark, the high half of word 0 (12.8). -/
def markOf (words : List Word) : BitVec 16 := (words.getD 0 0).extractLsb' 16 16

/-- The body of w words (12.8). -/
def bodyOf (words : List Word) : List Word := (words.drop 3).take (words.getD 2 0).toNat

/-- The check value (12.8). -/
def checkOf (words : List Word) : Word := words.getD (3 + (words.getD 2 0).toNat) 0

/-- Pass 1 succeeds (R190). -/
def pass1Ok (words : List Word) : Bool :=
  decide (markOf words = Config.imageMark) && decide ((words.getD 2 0).toNat ≤ Config.maxImageWords) &&
  decide (wordSum (bodyOf words) = checkOf words)

/-- Pass 2 as it begins, from what pass 1 read (R190, R191). -/
def startPass2 (words : List Word) : Pass2 :=
  { identity := words.getD 1 0, wordCount := (words.getD 2 0).toNat, taken := 0, sum := 0
    errors := false, ended := false }

/-- The end of pass 1 (R190). -/
def endPass1 (words : List Word) (s : State) : State :=
  if pass1Ok words then { s with boot := .pass2 (startPass2 words) }
  else endStartUp { s with imageStatus := .rejected }

/-! ## Pass 2 (R191, R197) -/

/-- The reading of pass 2 is done: the whole body has been read, or a record ran past its end (R191). -/
def Pass2.complete (p : Pass2) : Bool := p.ended || decide (p.wordCount ≤ p.taken)

/-- A record's data would run past the end of the body (R191, R197). -/
def Pass2.overruns (p : Pass2) (header : Word) : Bool := decide (p.wordCount < p.taken + 1 + recordCount header)

/-- The address a load record's header names (12.8). -/
def recordAddress (header : Word) : Nat := (header.extractLsb' 16 16).toNat

/-- One load record applied, or skipped and the status marked (R191). -/
def applyRecord (p : Pass2) (header : Word) (data : List Word) (s : State) : State :=
  let done := performWrite (recordAddress header) data s
  let p' : Pass2 :=
    { p with taken := p.taken + 1 + data.length, sum := p.sum + header + wordSum data
             errors := p.errors || decide (done.2.1 ≠ .ok) }
  { done.1 with boot := .pass2 p' }

/-- A load record that runs past the end of the body: skipped, and pass 2 ends there (R191). -/
def endAtOverrun (p : Pass2) (s : State) : State := { s with boot := .pass2 { p with errors := true, ended := true } }

/-- The image status at the end of pass 2, the check word read and compared (R191, R197). -/
def Pass2.status (p : Pass2) (check : Word) : ImageStatus :=
  if p.errors ∨ p.sum ≠ check then .appliedWithErrors else .applied

/-! ## Meanings -/

/-- POWER_ON_RESET (R189). -/
def execPowerOnReset (s : State) : Host.Outcome State Fault Refusal := .next (resetBlocks s)

/-- RESET_RELEASE (R189); with RESET_N already high there is no rising edge. -/
def execResetRelease (bootSel : Bool) (tag : BitVec 10) (s : State) : Host.Outcome State Fault Refusal :=
  .next (if resetLow s then release bootSel tag s else s)

/-- IMAGE_PASS_1 (R190): nothing while no pass 1 is under way; a command that does not carry the words pass 1 reads is
no end of it. -/
def execImagePass1 (words : List Word) (s : State) : Host.Outcome State Fault Refusal :=
  match s.boot with
  | .pass1 => if words.length = pass1Length words then .next (endPass1 words s) else .refused .incompleteReading
  | .resetLow | .pass2 _ | .over => .next s

/-- LOAD_RECORD (R191): nothing while no pass 2 is under way or its reading is done; a command that does not carry the
data words its header names is no reading of a record. -/
def execLoadRecord (header : Word) (data : List Word) (s : State) : Host.Outcome State Fault Refusal :=
  match s.boot with
  | .pass2 p =>
    if p.complete then .next s
    else if p.overruns header then .next (endAtOverrun p s)
    else if data.length = recordCount header then .next (applyRecord p header data s)
    else .refused .incompleteReading
  | .resetLow | .pass1 | .over => .next s

/-- END_OF_START_UP (R191, R192, R197): the reading of pass 2 is done, the check word among it. Where start-up ends for
another reason (BOOT_SEL low, R189; a rejected image, R190) it ends within that step. -/
def execEndOfStartUp (s : State) (check : Word) : Host.Outcome State Fault Refusal :=
  match s.boot with
  | .pass2 p =>
    if p.complete then .next (endStartUp { s with imageStatus := p.status check, imageIdentity := some p.identity })
    else .next s
  | .resetLow | .pass1 | .over => .next s

end Sys2Proof.Machine
end

