-- ==== Sys2Proof/Machine/Dispatch.lean ====
section
/-! DEFINITION. One arm for each command, each a direct call of its meaning. -/

namespace Sys2Proof.Machine

def exec (i : Instr) (s : State) : Host.Outcome State Fault Refusal :=
  match i with
  | .powerOnReset => Sys2Proof.Machine.execPowerOnReset s
  | .resetRelease bootSel tag => Sys2Proof.Machine.execResetRelease bootSel tag s
  | .linkDown port => Sys2Proof.Machine.execLinkDown port s
  | .linkUp port => Sys2Proof.Machine.execLinkUp port s
  | .frameReceived port tag fcsOk bytes => Sys2Proof.Machine.execFrameReceived port tag fcsOk bytes s
  | .holdoffDone n => Sys2Proof.Machine.execHoldoffDone n s
  | .epochRefTick tag => Sys2Proof.Machine.execEpochRefTick s tag
  | .holdoverExpiry tag => Sys2Proof.Machine.execHoldoverExpiry s tag
  | .staleLimit m => Sys2Proof.Machine.execStaleLimit m s
  | .actionRetry n => Sys2Proof.Machine.execActionRetry n s
  | .actionTimeout n => Sys2Proof.Machine.execActionTimeout n s
  | .stationTransmitterTake tag => Sys2Proof.Machine.execStationTransmitterTake s tag
  | .fieldTransmitterTake => Sys2Proof.Machine.execFieldTransmitterTake s
  | .mgmtFrameTaken pieces tag => Sys2Proof.Machine.execMgmtFrameTaken pieces s tag
  | .read address count => Sys2Proof.Machine.execRead address count s
  | .write address words => Sys2Proof.Machine.execWrite address words s
  | .setHazard level => Sys2Proof.Machine.execSetHazard level s
  | .setPermit sec value => Sys2Proof.Machine.execSetPermit sec value s
  | .restore sec => Sys2Proof.Machine.execRestore sec s
  | .clearConditions sec kinds => Sys2Proof.Machine.execClearConditions sec kinds s
  | .clearStream slot => Sys2Proof.Machine.execClearStream slot s
  | .releaseCapture index => Sys2Proof.Machine.execReleaseCapture index s
  | .suspend => Sys2Proof.Machine.execSuspend s
  | .resume => Sys2Proof.Machine.execResume s
  | .restart => Sys2Proof.Machine.execRestart s
  | .identify tag => Sys2Proof.Machine.execIdentify s tag
  | .imagePass1 words => Sys2Proof.Machine.execImagePass1 words s
  | .loadRecord header data => Sys2Proof.Machine.execLoadRecord header data s
  | .endOfStartUp check => Sys2Proof.Machine.execEndOfStartUp s check

end Sys2Proof.Machine
end

