-- ==== Sys2Proof/Safety.lean ====
section
/-! DEFINITION. The terms the claims use: when the part serves requests, what a request's answer leaves, and the
invariants that every step keeps. -/

namespace Sys2Proof.Machine

/-! ## When a command has its effect -/

/-- RESET_N is high (R189). -/
def Running (s : State) : Prop := s.boot ≠ .resetLow

/-- Requests are executed: RESET_N is high, the mode is not STARTING, and no MGMT frame is under way (R180). -/
def Serving (s : State) : Prop := Running s ∧ s.mode ≠ .starting ∧ s.executing = none

/-- The state with the answer of a request of its own kept (log entry 7), and nothing else changed. -/
def State.answered (s : State) (request : Byte) (code : ResultCode) (data : List Byte) : State :=
  { s with lastResult := some { request := request, code := code, data := data } }

/-- The state with TAG as a command brought it, and nothing else changed (R7). -/
def State.tagged (s : State) (tag : BitVec 10) : State := { s with pins := { s.pins with tag := tag } }

/-- The twelve request commands, with the codes their answers carry (12.3). -/
def requestOf : Instr → Option Byte
  | .read _ _ => some readCode
  | .write _ _ => some writeCode
  | .setHazard _ => some setHazardCode
  | .setPermit _ _ => some setPermitCode
  | .restore _ => some restoreCode
  | .clearConditions _ _ => some clearConditionsCode
  | .clearStream _ => some clearStreamCode
  | .releaseCapture _ => some releaseCaptureCode
  | .suspend => some suspendCode
  | .resume => some resumeCode
  | .restart => some restartCode
  | .identify _ => some identifyCode
  | .powerOnReset | .resetRelease _ _ | .linkDown _ | .linkUp _ | .frameReceived _ _ _ _ | .holdoffDone _
  | .epochRefTick _ | .holdoverExpiry _ | .staleLimit _ | .actionRetry _ | .actionTimeout _ | .stationTransmitterTake _
  | .fieldTransmitterTake | .mgmtFrameTaken _ _ | .imagePass1 _ | .loadRecord _ _ | .endOfStartUp _ => none

/-- The request, by code and parameters, that a MGMT frame carries for each request command but WRITE (12.3). -/
def requestCarried : Instr → Option RawRequest
  | .read address count => some ⟨1, bytes16 address ++ [count]⟩
  | .setHazard level => some ⟨3, [level]⟩
  | .setPermit sec value => some ⟨4, [sec, value]⟩
  | .restore sec => some ⟨5, [sec]⟩
  | .clearConditions sec kinds => some ⟨6, [sec, kinds]⟩
  | .clearStream slot => some ⟨7, [slot]⟩
  | .releaseCapture index => some ⟨8, [index]⟩
  | .suspend => some ⟨9, []⟩
  | .resume => some ⟨10, []⟩
  | .restart => some ⟨11, []⟩
  | .identify _ => some ⟨12, []⟩
  | .write _ _ | .powerOnReset | .resetRelease _ _ | .linkDown _ | .linkUp _ | .frameReceived _ _ _ _ | .holdoffDone _
  | .epochRefTick _ | .holdoverExpiry _ | .staleLimit _ | .actionRetry _ | .actionTimeout _ | .stationTransmitterTake _
  | .fieldTransmitterTake | .mgmtFrameTaken _ _ | .imagePass1 _ | .loadRecord _ _ | .endOfStartUp _ => none

/-! ## Layouts (chapter 12) -/

/-- The originators in the order of the walk: DEVICE, SECTION 0 to 31, SLOT 0 to 63 (R175). -/
def originatorsInOrder : List Originator :=
  .device :: (List.finRange 32).map Originator.sec ++ (List.finRange 64).map Originator.slot

/-- A word shows fields, each given by its lowest bit, its width and its value, and 0 in the bits that no field occupies
(R193, 12.7). -/
def Shows (w : Word) (fields : List (Nat × Nat × Nat)) : Prop :=
  (∀ f ∈ fields, (w.extractLsb' f.1 f.2.1).toNat = f.2.2 % 2 ^ f.2.1) ∧
  ∀ b : Nat, b < 32 → (∀ f ∈ fields, b < f.1 ∨ f.1 + f.2.1 ≤ b) → w.getLsbD b = false

/-- Values one after another, each in its number of bytes, high byte first (R193). -/
def laidOut (fields : List (Nat × Nat)) : List Byte :=
  (fields.map (fun f => (List.range f.1).map (fun i => (BitVec.ofNat 8 (f.2 / 256 ^ (f.1 - 1 - i)) : Byte)))).flatten

/-- The kind number of a record and its detail fields, with their lengths in bytes (12.4; log entry 36 for the fields
that are NONE). -/
def recordDetail : Detail → Nat × List (Nat × Nat)
  | .conditionSet k phases r added =>
    (1, [(1, k.code), (1, phases.code), (1, r.response.code), (1, r.profile.val), (1, r.level.code), (1, added.toNat)])
  | .conditionCleared k phases cause => (2, [(1, k.code), (1, phases.code), (1, cause.code)])
  | .actionHeld cause target why => (3, [(1, cause.code), (1, target.val), (1, why.code)])
  | .actionSent cause target stream attempt first =>
    (4, [(1, cause.code), (1, target.val), (2, stream.toNat), (1, attempt), (2, (first.getD 0).toNat)])
  | .actionConfirmed cause target attempts origins =>
    (5, [(1, cause.code), (1, target.val), (1, attempts), (1, origins)])
  | .actionFailed cause target attempts first origins =>
    (6, [(1, cause.code), (1, target.val), (1, attempts), (2, (first.getD 0).toNat), (1, origins)])
  | .actionCancelled cause why attempts => (7, [(1, cause.code), (1, why.code), (1, attempts)])
  | .escalated source target hop state => (8, [(1, source.val), (1, target.val), (1, hop), (1, state.code)])
  | .escalationExhausted why hops group =>
    (9, [(1, why.code), (1, hops), (4, (((List.finRange 32).filter (fun n => n ∈ group)).map (fun n => 2 ^ n.val)).sum)])
  | .sectionState before after cause next => (10, [(1, before.code), (1, after.code), (1, cause.code), (2, next.toNat)])
  | .streamState stream before after cause error =>
    (11, [(2, stream.toNat), (1, before.code), (1, after.code), (1, cause.code),
          (1, (error.map ErrorKind.code).getD 0)])
  | .clockState before after old new cause =>
    (12, [(1, before.code), (1, after.code), (2, old.toNat), (2, new.toNat), (1, cause.code)])
  | .hazardChange before after => (13, [(1, before.code), (1, after.code)])
  | .captureFrozen i epoch trigger short pre post =>
    (14, [(1, i.val), (2, epoch.toNat), (1, trigger.code), (1, short.toNat), (1, pre), (1, post)])
  | .summaryDevice clock c announce level mode image a b =>
    (15, [(1, clock.code), (2, c.toNat), (1, announce.isSome.toNat), (2, (announce.getD 0).toNat), (1, level.code),
          (1, mode.code), (1, image.code), (1, a.toNat + 2 * b.toNat)])
  | .summarySection entry mode next incomplete c a missed =>
    let shown (k : Nat) : Nat := if a.state = .noAction then 0 else k
    (15, [(1, entry.code), (1, mode.code), (2, next.toNat), (1, incomplete), (1, c.code), (1, c.openPhases.code),
          (1, c.downedPhases.code), (1, a.state.code), (1, shown a.cause.code), (1, shown a.target.val),
          (1, a.attempts), (1, missed.toNat)])
  | .summarySlot entry stream state sticky errors position =>
    (15, [(1, entry.code), (2, stream.toNat), (1, state.code), (1, sticky.code), (1, errors), (1, position.code)])

/-- The 20 bytes of a report record (12.4; log entry 36 for an epoch that is NONE). -/
def recordLaidOut (r : ReportRecord) : List Byte :=
  let origin : Nat × Nat := match r.origin with
    | .device => (0, 0)
    | .sec n => (1, n.val)
    | .slot m => (2, m.val)
  let bytes := laidOut ([(1, (recordDetail r.detail).1), (1, origin.1), (1, origin.2), (1, r.epoch.isSome.toNat),
    (2, (r.epoch.getD 0).toNat)] ++ (recordDetail r.detail).2)
  bytes ++ List.replicate (20 - bytes.length) 0

/-- The fields of the device settings words (12.6, in the codes of 12.5). -/
def SettingsFields : Prop :=
  ∀ w : Vector Word 4,
    let field (k : Fin 4) (low width : Nat) : Nat := (w[k].extractLsb' low width).toNat
    [20, 50, 100, 200][field 0 0 2]? = some (epochPeriod w) ∧ allowanceL w = field 0 8 4 ∧
    [SyncMode.every, .nextOnly, .skipOneThenEvery, .off][field 1 0 2]? = some (syncMode w)

/-- The fields of the words of a stream entry (12.6). -/
def StreamFields : Prop :=
  ∀ w : Vector Word 6,
    let field (k : Fin 6) (low width : Nat) : Nat := (w[k].extractLsb' low width).toNat
    (streamId w).toNat = field 0 0 16 ∧ consumes w = w[1].getLsbD 0 ∧ expectedScale w = field 1 8 4 ∧
    staleLimit w = field 3 0 8 ∧
    (∀ place ∈ [(Quantity.ia, 0), (.ib, 4), (.ic, 8), (.va, 12), (.vb, 16), (.vc, 20)],
      mapField w place.1 = field 2 place.2 4 ∧
      mapIndex w place.1 = if field 2 place.2 4 = 15 then none else some (field 2 place.2 4)) ∧
    ∀ k : ErrorKind, inCountMask w k = w[4].getLsbD k.bit ∧ inResyncMask w k = w[5].getLsbD k.bit

/-- The fields of the words of a profile entry, the two masks apart (12.6). -/
def ProfileFields : Prop :=
  ∀ w : Vector Word 12,
    let field (k : Fin 12) (low width : Nat) : Nat := (w[k].extractLsb' low width).toNat
    Prof.pickup w = field 0 0 16 ∧ Prof.slope w = field 0 16 8 ∧ Prof.excessCap w = field 1 0 16 ∧
    Prof.leak w = field 1 16 8 ∧ Prof.tripLevel w = field 2 0 16 ∧ Prof.burst w = field 2 16 16 ∧
    Prof.windowLen w = field 3 0 8 ∧ Prof.irrRequired w = field 3 8 8 ∧ Prof.openPersist w = field 3 16 8 ∧
    Prof.openFloor w = field 4 0 16 ∧ Prof.loadFloor w = field 4 16 16 ∧ Prof.vCollapse w = field 5 0 16 ∧
    Prof.vHealthy w = field 5 16 16 ∧ Prof.blindAfter w = field 6 0 8 ∧ Prof.holdoffEpochs w = field 6 8 8 ∧
    Prof.attempts w = field 9 0 8 ∧ Prof.retryEpochs w = field 10 0 8 ∧ Prof.confirmTimeout w = field 11 0 8

/-- The fields of the words of a section entry (12.6), those that name a slot, a section or a profile where they hold a
number of one (R195). -/
def SectionFields : Prop :=
  ∀ w : Vector Word 6,
    let field (k : Fin 6) (low width : Nat) : Nat := (w[k].extractLsb' low width).toNat
    upstreamField w = field 0 0 8 ∧ voltageField w = field 0 8 8 ∧ switchField w = field 0 16 8 ∧
    backupField w = field 0 24 8 ∧ downstreamCount w = field 1 0 8 ∧
    downstreamFields w = [field 1 8 8, field 1 16 8, field 1 24 8, field 2 0 8, field 2 8 8, field 2 16 8] ∧
    normalField w = field 3 0 8 ∧ elevatedField w = field 3 8 8 ∧ permitOn w = w[3].getLsbD 16 ∧
    loadAllowance w .a = field 4 0 16 ∧ loadAllowance w .b = field 4 16 16 ∧ loadAllowance w .c = field 5 0 16 ∧
    (∀ m : SlotNo, (upstreamField w = m.val → upstreamSlot w = m) ∧ (voltageField w = m.val → voltageSlot w = some m) ∧
      (switchField w = m.val → switchSlot w = some m)) ∧
    (voltageField w = 255 → voltageSlot w = none) ∧ (switchField w = 255 → switchSlot w = none) ∧
    (∀ b : SectionNo, backupField w = b.val → backupSection w = some b) ∧
    (backupField w = 255 → backupSection w = none) ∧
    (∀ downs : List SlotNo, (downstreamFields w).take (downstreamCount w) = downs.map Fin.val →
      downstreamSlots w = downs) ∧
    (∀ p : ProfileNo, (normalField w = p.val → profileAt w .normal = p) ∧
      (elevatedField w = p.val → profileAt w .elevated = p)) ∧
    ∀ m : SlotNo, m ∈ members w ↔ m = upstreamSlot w ∨ m ∈ downstreamSlots w ∨ voltageSlot w = some m

/-- What the bytes of a received frame read as (R3, R4, 12.2, 12.3): header, payload, padding and check sequence. -/
def FramesRead : Prop :=
  ∀ (dest source padding check : List Byte) (stream : BitVec 16) (epoch : Epoch), dest.length = 6 → source.length = 6 →
    check.length = 4 →
    let frame (type version kind length : Nat) (payload : List Byte) : List Byte :=
      dest ++ source ++ laidOut [(2, type), (1, version), (1, kind), (2, stream.toNat), (2, epoch.toNat), (2, length)] ++
        payload ++ padding ++ check
    let read (kind : Nat) (payload : List Byte) : Parsed := parseFrame (frame 0xB29E 1 kind payload.length payload)
    let named : Prop := stream ≠ 0 ∧ stream ≠ 65535
    (∀ type version kind length payload, type < 65536 → version < 256 → length < 65536 →
      (type ≠ 0xB29E ∨ version ≠ 1 ∨ payload.length + padding.length < length) →
      parseFrame (frame type version kind length payload) = .foreign) ∧
    (∀ kind payload, kind < 256 → payload.length < 65536 → kind = 0 ∨ 7 < kind → read kind payload = .foreign) ∧
    (∀ (ok : Bool) (position : Nat) (channels : List Phasor),
      (∀ c ∈ channels, -32768 ≤ c.re ∧ c.re ≤ 32767 ∧ -32768 ≤ c.im ∧ c.im ≤ 32767) →
      channels.length ≤ 8 → position < 256 →
      let got := read 1 (laidOut [(1, ok.toNat), (1, position), (1, channels.length)] ++
        (channels.map (fun c => laidOut [(2, (c.re % 65536).toNat), (2, (c.im % 65536).toNat)])).flatten)
      (¬named ∨ channels = [] ∨ 3 < position → got = .foreign) ∧
      ∀ report, named → channels ≠ [] →
        [FramePosition.unstated, .opened, .closed, .moving][position]? = some report →
        got = .measure { stream := stream, epoch := epoch, sensorOk := ok, position := report, channels := channels }) ∧
    (∀ (scale : Byte) (codes : List Nat), codes.length ≤ 8 → (∀ c ∈ codes, c < 256) →
      let got := read 2 (laidOut ([(1, scale.toNat), (1, codes.length)] ++ codes.map (fun c => (1, c))))
      (¬named ∨ codes = [] ∨ (∃ c ∈ codes, 6 < c) → got = .foreign) ∧
      (named → codes ≠ [] → (∀ c ∈ codes, c ≤ 6) →
        got = .describe { stream := stream, scale := scale.toNat % 16, codes := codes })) ∧
    (∀ payload : List Byte, payload.length < 65536 →
      read 3 payload = if payload = [] then .sync epoch else .foreign) ∧
    let carried (requests : List RawRequest) : List Byte :=
      (requests.map (fun q => laidOut [(1, q.code.toNat), (2, q.params.length)] ++ q.params)).flatten
    (∀ (tag : BitVec 16) (requests : List RawRequest),
      let payload := laidOut [(2, tag.toNat), (1, requests.length)] ++ carried requests
      payload.length < 65536 → requests.length ≤ 8 →
      read 6 payload = if requests = [] then .foreign else .mgmt tag source requests) ∧
    ∀ payload : List Byte, payload.length < 65536 →
      let value (k : Nat) : Nat := (payload.getD k 0).toNat
      let answered (l : List (Byte × Byte × List Byte)) : List Byte :=
        (l.map (fun r => laidOut [(1, r.1.toNat), (1, r.2.1.toNat), (2, r.2.2.length)] ++ r.2.2)).flatten
      let replied := 3 ≤ payload.length ∧ ∃ l, l.length = value 2 ∧ payload.drop 3 = answered l
      (¬named ∨ payload.length < 3 ∨ 1 < value 0 ∨ 3 < value 1 ∨ value 2 = 0 ∨ 8 < value 2 ∨
        payload.length ≠ 3 + 4 * value 2 → read 1 payload = .foreign) ∧
      (¬named ∨ payload.length < 2 ∨ value 1 = 0 ∨ 8 < value 1 ∨ payload.length ≠ 2 + value 1 ∨
        (∃ code ∈ payload.drop 2, 6 < code.toNat) → read 2 payload = .foreign) ∧
      read 4 payload = (if payload.length = 4 then .passing else .foreign) ∧
      read 5 payload =
        (if 1 ≤ value 2 ∧ value 2 ≤ 8 ∧ payload.length = 4 + 20 * value 2 then .passing else .foreign) ∧
      (payload.length < 3 ∨ value 2 = 0 ∨ 8 < value 2 ∨
        (∀ requests : List RawRequest, requests.length = value 2 → payload.drop 3 ≠ carried requests) →
        read 6 payload = .foreign) ∧
      (replied → read 7 payload = .passing) ∧ (¬replied → read 7 payload = .foreign)

/-- The codes of 12.5 that the records and the words of a READ show. -/
def CodesListed : Prop :=
  [EntryState.empty, .loading, .invalid, .valid].map EntryState.code = [0, 1, 2, 3] ∧
  [ReportedStream.inState .noState, .inState .acquiring, .inState .locked, .inState .stale, .outOfService].map
    ReportedStream.code = [0, 1, 2, 3, 4] ∧
  [StreamState.noState, .acquiring, .locked, .stale].map StreamState.code = [0, 1, 2, 3] ∧
  [SectionMode.off, .arming, .holdoff, .watch, .blind, .deenergized, .latched].map SectionMode.code =
    [0, 1, 2, 3, 4, 5, 6] ∧
  [ClockState.unset, .run, .holdover].map ClockState.code = [0, 1, 2] ∧
  [Position.unknown, .opened, .closed, .moving].map Position.code = [0, 1, 2, 3] ∧
  [Kind.opened, .downed, .sightLoss, .memberResync, .actionFailed, .backupCalled].map Kind.code = [1, 2, 3, 4, 5, 6] ∧
  [ErrorKind.descriptorMismatch, .channelShort, .early, .late, .duplicate, .sensorFault].map ErrorKind.code =
    [1, 2, 3, 4, 5, 6] ∧
  [Response.isolate, .report].map Response.code = [1, 2] ∧
  [ActionState.noAction, .held, .pending, .sent, .confirmed, .failed].map ActionState.code = [0, 1, 2, 3, 4, 5] ∧
  [Cause.escalation, .downed, .opened, .sightLoss, .memberResync].map Cause.code = [1, 2, 3, 4, 5] ∧
  [Hazard.normal, .elevated].map Hazard.code = [0, 1] ∧
  [DeviceMode.starting, .active, .suspended].map DeviceMode.code = [0, 1, 2] ∧
  [ImageStatus.noImage, .rejected, .applied, .appliedWithErrors].map ImageStatus.code = [0, 1, 2, 3] ∧
  [Progress.nothing, .waiting, .done, .skipping, .passing].map Progress.code = [0, 1, 2, 3, 4] ∧
  [SectionCause.commit, .loading, .armed, .holdoffDone, .sightLost, .sightRegained, .switchOpen, .latch, .switchClosed,
    .restore].map SectionCause.code = [1, 2, 3, 4, 5, 6, 7, 8, 9, 10] ∧
  [StreamCause.commit, .matched, .resync, .staleLimit, .resumed, .loading].map StreamCause.code = [1, 2, 3, 4, 5, 6] ∧
  [ClockCause.numbered, .step, .holdoverEntered, .pulseRestored].map ClockCause.code = [1, 2, 3, 4] ∧
  [ClearCause.sightRegained, .self, .leftService, .clearRequest, .restore, .loading].map ClearCause.code =
    [1, 2, 3, 4, 5, 6] ∧
  [CaptureState.free, .filling, .frozen].map CaptureState.code = [0, 1, 2] ∧
  [Trigger.downedPickup, .openPickup].map Trigger.code = [0, 1] ∧
  [StreamReason.good, .badField, .badIdentifier, .badStaleLimit, .mapConflict, .noCurrent, .duplicateId].map
    StreamReason.code = [0, 1, 2, 3, 4, 5, 6] ∧
  [SectionReason.good, .badField, .badAllowance, .memberConflict, .badBackup, .profileNotValid].map SectionReason.code =
    [0, 1, 2, 3, 4, 5] ∧
  [ProfileReason.good, .badField, .badRange, .irrExceedsWindow, .retryExceedsTimeout].map ProfileReason.code =
    [0, 1, 2, 3, 4] ∧
  [HeldReason.permitOff, .notActive].map HeldReason.code = [1, 2] ∧
  [DropReason.liveCleared, .clearRequest, .loading].map DropReason.code = [1, 2, 3] ∧
  [ExhaustedReason.noBackup, .backupOff, .noSwitch, .hopLimit].map ExhaustedReason.code = [1, 2, 3, 4] ∧
  [ResultCode.ok, .badAddress, .badLength, .badValue, .inUse, .busy, .actionBusy, .notReady].map ResultCode.code =
    [0, 1, 2, 3, 4, 5, 6, 7] ∧
  (∀ p : PhaseSet, p.code = p.a.toNat + 2 * p.b.toNat + 4 * p.c.toNat) ∧
  (∀ (f : ErrorFlags) (k : ErrorKind), f.code.testBit k.bit = f.get k) ∧ (∀ f : ErrorFlags, f.code < 64) ∧
  (∀ (c : ConditionSet) (k : Kind), c.code.testBit k.bit = (c.get k).isSome) ∧ (∀ c : ConditionSet, c.code < 64) ∧
  (∀ k : ErrorKind, k.bit + 1 = k.code) ∧ ∀ k : Kind, k.bit + 1 = k.code

/-! ## Results that several claims name -/

/-- The values that the claims name for what is empty, FREE or NONE (R50, R92, R122, 8.1, R158, R160). -/
def BlankValues : Prop :=
  ActionRecord.none =
    { state := .noAction, cause := .escalation, target := 0, attempts := 0, firstSent := none, lastSent := none
      origins := [] } ∧
  Capture.cleared =
    { state := .free, sec := 0, triggerEpoch := 0, trigger := .downedPickup, profile := 0, short := false, pre := 0
      post := 0, records := [] } ∧
  noPhases = ⟨false, false, false⟩ ∧
  ConditionSet.empty =
    { opened := none, downed := none, sightLoss := none, memberResync := none, actionFailed := none
      backupCalled := none, openPhases := noPhases, downedPhases := noPhases } ∧
  emptyRing = Vector.replicate 16 none ∧ startPhases = ⟨⟨0, 0, [], none⟩, ⟨0, 0, [], none⟩, ⟨0, 0, [], none⟩⟩ ∧
  SectionState.blank =
    { words := Vector.replicate 6 0, entry := .empty, reason := .good, mode := .off, next := 0, incomplete := 0
      holdoff := 0, history := [], phases := startPhases }

/-- What the six kinds are named by: the field of a condition set that holds each, its phase set, its bit in a kind set
and in the masks of a profile, and the cause of an action that its clearing drops (7.3, R127, R141, 12.5). -/
def KindsNamed : Prop :=
  (∀ c : ConditionSet,
    [Kind.opened, .downed, .sightLoss, .memberResync, .actionFailed, .backupCalled].map c.get =
      [c.opened, c.downed, c.sightLoss, c.memberResync, c.actionFailed, c.backupCalled] ∧
    [Kind.opened, .downed, .sightLoss, .memberResync, .actionFailed, .backupCalled].map c.phases =
      [c.openPhases, c.downedPhases, noPhases, noPhases, noPhases, noPhases]) ∧
  [Kind.opened, .downed, .sightLoss, .memberResync, .actionFailed, .backupCalled].map Kind.bit = [0, 1, 2, 3, 4, 5] ∧
  [Cause.opened, .downed, .sightLoss, .memberResync, .escalation].map Cause.kind =
    [some .opened, some .downed, some .sightLoss, some .memberResync, none]

/-- The sticky flags by kind, the bits of a kind in a set, and one flag set with the others as they stand (R23, 12.5). -/
def ErrorFlagsNamed : Prop :=
  [ErrorKind.descriptorMismatch, .channelShort, .early, .late, .duplicate, .sensorFault].map ErrorKind.bit =
    [0, 1, 2, 3, 4, 5] ∧
  ∀ f : ErrorFlags,
    [ErrorKind.descriptorMismatch, .channelShort, .early, .late, .duplicate, .sensorFault].map f.get =
      [f.descriptorMismatch, f.channelShort, f.early, f.late, f.duplicate, f.sensorFault] ∧
    ∀ k j : ErrorKind, (f.raise k).get j = true ↔ j = k ∨ f.get j = true

/-- A slot after one error of a frame (R23). -/
def slotAfterError (x : SlotState) (k : ErrorKind) : SlotState :=
  let y : SlotState :=
    { x with sticky := x.sticky.raise k, errors := if inCountMask x.words k then min 255 (x.errors + 1) else x.errors }
  if inResyncMask x.words k ∨ k = .descriptorMismatch then
    { y with stream := .acquiring, ring := emptyRing, staleCount := 0 }
  else y

/-- The slot of a frame after the position update of R28. -/
def slotAfterPosition (x : SlotState) (f : MeasureFrame) : SlotState :=
  if f.sensorOk then { x with position := f.position.update x.position } else x

/-- The SENSOR_FAULT that a frame with sensor_ok no raises after its other error or its storing (R24, R31). -/
def faultOf (f : MeasureFrame) : List ErrorKind := if f.sensorOk then [] else [.sensorFault]

/-- An action record released by R139. -/
def releasedRecord (a : ActionRecord) (qualified : Bool) : ActionRecord :=
  if a.state = .held ∧ qualified = true then { a with state := .pending } else a

/-- The origin lists that section `n` has left (R158). -/
def leftLists (n : SectionNo) (a : ActionRecord) : ActionRecord :=
  { a with origins := a.origins.filter (fun o => decide (o ≠ n)) }

/-- The action records once that of section `n` has returned to NONE and the section has left every origin list
(R158). -/
def retiredRecords (n : SectionNo) (l : Vector ActionRecord 32) : Vector ActionRecord 32 :=
  (l.set n ActionRecord.none).map (leftLists n)

/-- The CONDITION_CLEARED of one kind that leaves a condition set, as the set stood; none for a kind that is not set, nor
for one whose response is RECORD (R129). -/
def clearingReported (n : SectionNo) (c : ConditionSet) (cause : ClearCause) (s : State) (k : Kind) : State :=
  match c.get k with
  | none => s
  | some r => if r.response = .record then s else queueReport (.sec n) (.conditionCleared k (c.phases k) cause) s

/-- The ACTION_CANCELLED of a record that is dropped (R141). -/
def cancelReported (n : SectionNo) (a : ActionRecord) (why : DropReason) (s : State) : State :=
  queueReport (.sec n) (.actionCancelled a.cause why a.attempts) s

/-- A HELD record caused by a live kind that is set (R141). -/
def heldByLive (c : ConditionSet) (a : ActionRecord) (k : Kind) : Bool :=
  decide (a.state = .held) && decide (a.cause.kind = some k) && (c.get k).isSome

/-- The records of the leaving rule at section `n` as it stands in `s`, queued in `u`: for each live kind its
CONDITION_CLEARED and the ACTION_CANCELLED of a HELD record that it caused, then the CAPTURE_FROZEN of a FILLING capture
(R83, R129, R141, R165). -/
def leavingReported (n : SectionNo) (why : DropReason) (s u : State) : State :=
  let cleared := [Kind.sightLoss, .memberResync].foldl (fun u k =>
    let v := clearingReported n s.conds[n] .leftService u k
    if heldByLive s.conds[n] s.actions[n] k then cancelReported n s.actions[n] why v else v) u
  match fillingFor n s with
  | none => cleared
  | some i =>
    let b := s.captures[i]
    queueReport (.sec n) (.captureFrozen i b.triggerEpoch b.trigger true b.pre b.post) cleared

/-- Section `n` leaves HOLDOFF, WATCH or BLIND for a state out of service: its live conditions cleared and its latched
ones kept, a HELD action that a cleared live condition had caused dropped, a FILLING capture of it frozen short, and
SECTION_STATE queued after the records of these (R83, R141, R164; log entry 18 for their order). -/
structure LeavesService (n : SectionNo) (entered : SectionMode) (cause : SectionCause) (s t : State) : Prop where
  frame : t = { s with
    sections := s.sections.set n { s.sections[n] with mode := entered }
    conds := s.conds.set n { s.conds[n] with sightLoss := none, memberResync := none }
    actions := t.actions, captures := t.captures, report := t.report }
  dropped : s.actions[n].state = .held →
    ((s.actions[n].cause = .sightLoss ∧ s.conds[n].sightLoss ≠ none) ∨
      (s.actions[n].cause = .memberResync ∧ s.conds[n].memberResync ≠ none)) →
    t.actions = retiredRecords n s.actions
  kept : s.actions[n].state ≠ .held ∨
      ((s.actions[n].cause ≠ .sightLoss ∨ s.conds[n].sightLoss = none) ∧
        (s.actions[n].cause ≠ .memberResync ∨ s.conds[n].memberResync = none)) →
    t.actions = s.actions
  frozen : ∀ i : CaptureNo, t.captures[i] =
    if fillingFor n s = some i then { s.captures[i] with state := .frozen, short := true } else s.captures[i]
  reported : t.report = (queueReport (.sec n) (.sectionState s.sections[n].mode entered cause s.sections[n].next)
    (leavingReported n .liveCleared s s)).report

/-- The STREAM_STATE of one frame's handling at slot `m` (R24, R172): from the state before it to that after its last
change, with the cause of that change, and none where the two are the same. -/
def moveReported (m : SlotNo) (before : StreamState) (v : SlotMove) (s : State) : State :=
  match v.cause with
  | none => s
  | some (cause, error) =>
    if v.slot.stream = before then s
    else queueReport (.slot m)
      (.streamState (streamId s.slots[m].words) before (.inState v.slot.stream) cause error) s

/-- A queue with a frame joined at its tail, or as it stands when it holds `cap` frames (R8, R9). -/
def joined {α : Type} (cap : Nat) (q : List α) (x : α) : List α := if q.length < cap then q ++ [x] else q

/-! ## Work that takes no order (log entry 1) -/

/-- Pieces of work in a sequence that holds every thread in its own order, and nothing else. -/
def Interleaves (threads : List (List Work)) (works : List Work) : Prop :=
  works.Perm threads.flatten ∧ ∀ t ∈ threads, t.Sublist works

/-- State `t` is `s` after the work of the threads in some interleaving, with the choices of order that took. -/
def WorkDone (threads : List (List Work)) (s t : State) : Prop :=
  ∃ (works : List Work) (u : State), Interleaves threads works ∧
    u = { s with order := u.order, orderIndex := u.orderIndex } ∧ t = works.foldl doWorkAmong u

/-- The pieces of work apart: each a thread of its own. -/
def singly (works : List Work) : List (List Work) := works.map (fun w => [w])

/-- The work on records confirmed together, one after another: the ACTION_CONFIRMED of each, then its latch notices to
its own section and to its origins, in some interleaving with the work on the records after it (R147, R149, R171). -/
def ConfirmsThen (origins : SectionNo → List SectionNo) : List SectionNo → List Work → Prop
  | [], works => works = []
  | n :: more, works => ∃ after merged, ConfirmsThen origins more after ∧
      Interleaves [(n :: origins n).map Work.latch, after] merged ∧ works = .confirmed n :: merged

/-- The forced evaluations of sections at the closure of epoch `x`, one after another, and then the works given. A
section that `goes` goes on after its own forced evaluation with up to 16 evaluations, in some interleaving with what
follows it (R57, R84, R86). -/
def ForcesThen (goes : SectionNo → Bool) (x : Epoch) : List SectionNo → List Work → List Work → Prop
  | [], rest, works => works = rest
  | n :: secs, rest, works => ∃ after merged, ForcesThen goes x secs rest after ∧
      Interleaves [if goes n = true then List.replicate 16 (.evaluate n) else [], after] merged ∧
      works = .force x n :: merged

/-- The closures of epochs, one after another: for each the forced evaluations of the sections in some order, those
whose next epoch is at or before it going on after them, and then the discard; at their end the discard behind the mark
(R57, R58). -/
def ClosesInTurn (secs : List SectionNo) (next : SectionNo → Epoch) : List Epoch → List Work → Prop
  | [], works => works = [.discardBehind]
  | x :: rest, works => ∃ order more, order.Perm secs ∧ ClosesInTurn secs next rest more ∧
      ForcesThen (fun n => decide (0 ≤ serialDiff (next n) x)) x order (.discard x :: more) works

/-- The position of a frame is handed to the section evaluator and the action unit when it is OPEN or CLOSED and
sensor_ok is yes, and to neither otherwise (R28, R79, R81, R147). -/
structure PositionHanded (m : SlotNo) (f : MeasureFrame) (s t : State) : Prop where
  opened : f.sensorOk = true → f.position = .opened → ∃ confirmations,
    ConfirmsThen (fun n => s.actions[n].origins)
      (allSections.filter (fun n =>
        (s.actions[n].state = .pending ∨ s.actions[n].state = .sent) ∧ s.actions[n].target = m)) confirmations ∧
    ∃ v : State, v = { s with order := v.order, orderIndex := v.orderIndex } ∧
      WorkDone ((.confirm m :: confirmations) :: singly
        ((allSections.filter (fun n => switchSlot s.sections[n].words = some m)).map Work.switchOpen)) v t
  closed : f.sensorOk = true → f.position = .closed →
    WorkDone (singly
      ((allSections.filter (fun n => switchSlot s.sections[n].words = some m)).map Work.switchClosed)) s t
  neither : f.sensorOk = false ∨ f.position = .unstated ∨ f.position = .moving → t = s

/-! ## What the checks at a commit come to (R17, R70, R117, R195) -/

/-- `r` is the reason of the first check that fails, each given with what makes it fail, and `good` when none does. -/
def FirstFailing {α : Type} (good r : α) : List (Prop × α) → Prop
  | [] => r = good
  | (fails, reason) :: rest => (fails → r = reason) ∧ (¬fails → FirstFailing good r rest)

/-- The outcome of the checks of a stream entry (R17). -/
def StreamChecked (m : SlotNo) (w : Vector Word 6) (s : State) (r : StreamReason) : Prop :=
  FirstFailing .good r
    [((∃ q, 8 ≤ mapField w q ∧ mapField w q ≤ 14) ∨ w[4].getLsbD 6 = true ∨ w[4].getLsbD 7 = true ∨
        w[5].getLsbD 6 = true ∨ w[5].getLsbD 7 = true, .badField),
     (streamId w = 0 ∨ streamId w = 65535, .badIdentifier),
     (staleLimit w = 0 ∨ 63 < staleLimit w, .badStaleLimit),
     (∃ q q' i, q ≠ q' ∧ mapIndex w q = some i ∧ mapIndex w q' = some i, .mapConflict),
     (mapIndex w .ia = none ∧ mapIndex w .ib = none ∧ mapIndex w .ic = none, .noCurrent),
     (∃ j : SlotNo, j ≠ m ∧ s.slots[j].entry = .valid ∧ streamId s.slots[j].words = streamId w, .duplicateId)]

/-- The outcome of the checks of a section entry (R70). -/
def SectionChecked (n : SectionNo) (w : Vector Word 6) (s : State) (r : SectionReason) : Prop :=
  let downs := (downstreamFields w).take (downstreamCount w)
  let noSlot (k : Nat) : Prop := 64 ≤ k ∧ k ≠ 255
  FirstFailing .good r
    [(63 < upstreamField w ∨ noSlot (voltageField w) ∨ noSlot (switchField w) ∨
        (32 ≤ backupField w ∧ backupField w ≠ 255) ∨ 6 < downstreamCount w ∨ (∃ k ∈ downs, 63 < k) ∨
        7 < normalField w ∨ 7 < elevatedField w, .badField),
     (∃ p, 4095 < loadAllowance w p, .badAllowance),
     (¬(upstreamField w :: downs).Nodup, .memberConflict),
     (backupField w = n.val, .badBackup),
     (∃ h, s.profiles[profileAt w h].entry ≠ .valid, .profileNotValid)]

/-- The outcome of the checks of a profile entry (R117, with the ranges of 6.2 and 7.1). -/
def ProfileChecked (w : Vector Word 12) (r : ProfileReason) : Prop :=
  FirstFailing .good r
    [((∃ b, 4 ≤ b ∧ b ≤ 7 ∧ w[7].getLsbD b = true) ∨ w[8].getLsbD 6 = true ∨ w[8].getLsbD 7 = true, .badField),
     (∃ x ∈ [(Prof.pickup w, 0, 4095), (Prof.slope w, 0, 63), (Prof.excessCap w, 1, 65535), (Prof.leak w, 0, 255),
             (Prof.tripLevel w, 1, 65535), (Prof.burst w, 1, 4095), (Prof.windowLen w, 4, 32),
             (Prof.irrRequired w, 0, 32), (Prof.openFloor w, 0, 4095), (Prof.loadFloor w, 0, 4095),
             (Prof.openPersist w, 1, 255), (Prof.vCollapse w, 0, 32767), (Prof.vHealthy w, 0, 32767),
             (Prof.blindAfter w, 1, 63), (Prof.holdoffEpochs w, 0, 255), (Prof.attempts w, 1, 4),
             (Prof.retryEpochs w, 1, 63), (Prof.confirmTimeout w, 1, 255)],
        (x.1 < x.2.1 ∨ x.2.2 < x.1 : Prop), .badRange),
     (Prof.windowLen w < Prof.irrRequired w, .irrExceedsWindow),
     (Prof.confirmTimeout w < Prof.retryEpochs w, .retryExceedsTimeout)]

/-! ## What writing an entry leaves (R184) -/

/-- The words of an entry after its first `k` have been written. -/
def wordsAfter {len : Nat} (k : Nat) (old new : Vector Word len) : Vector Word len :=
  Vector.ofFn (fun i => if i.val < k then new[i] else old[i])

/-- A stream slot out of service: the dynamic state of a VALID entry ceases (R34), and any other slot has none. -/
def outOfService (x : SlotState) : SlotState :=
  if x.entry = .valid then
    { SlotState.blank with words := x.words, entry := x.entry, reason := x.reason }
  else x

/-- The report unit after the record of a VALID stream entry that enters LOADING (R34). -/
def loadingReported (m : SlotNo) (s : State) : State :=
  if s.slots[m].entry = .valid then
    queueReport (.slot m)
      (.streamState (streamId s.slots[m].words) s.slots[m].stream .outOfService .loading none) s
  else s

/-- The first `k` words of a stream entry written, fewer than its six: it stays LOADING (R16, R34). -/
def StreamLoading (m : SlotNo) (k : Nat) (w : Vector Word 6) (s t : State) : Prop :=
  t = { s with
    slots := s.slots.set m
      { outOfService s.slots[m] with words := wordsAfter k s.slots[m].words w, entry := .loading, reason := .good }
    report := (loadingReported m s).report }

/-- A stream entry written whole and committed (R16, R17, R19, R34). -/
def StreamWritten (m : SlotNo) (w : Vector Word 6) (s t : State) : Prop :=
  ∃ reason, StreamChecked m w s reason ∧
    (reason = .good → t = { s with
      slots := s.slots.set m { SlotState.blank with words := w, entry := .valid, stream := .acquiring }
      report := (queueReport (.slot m) (.streamState (streamId w) .noState (.inState .acquiring) .commit none)
        (loadingReported m s)).report }) ∧
    (reason ≠ .good → t = { s with
      slots := s.slots.set m { outOfService s.slots[m] with words := w, entry := .invalid, reason := reason }
      report := (loadingReported m s).report })

/-- A profile's words as they are stored: the held positions of the report mask set (R116). -/
def storedProfile (w : Vector Word 12) : Vector Word 12 := w.set 8 (w[8] ||| 0x13)

/-- The first `k` words of a profile entry written, fewer than its twelve (R116). -/
def ProfileLoading (p : ProfileNo) (k : Nat) (w : Vector Word 12) (s t : State) : Prop :=
  t = { s with
    profiles := s.profiles.set p
      { words := wordsAfter k s.profiles[p].words (storedProfile w), entry := .loading, reason := .good } }

/-- A profile entry written whole and committed (R116, R117). -/
def ProfileWritten (p : ProfileNo) (w : Vector Word 12) (s t : State) : Prop :=
  ∃ reason, ProfileChecked (storedProfile w) reason ∧
    t = { s with
      profiles := s.profiles.set p
        { words := storedProfile w, entry := if reason = .good then .valid else .invalid, reason := reason } }

/-- The records of a VALID section entry that enters LOADING: those of the leaving rule, the kinds still set, the action
record that is dropped, and SECTION_STATE (R73, R83, R132, R141, R158; log entries 18 and 20 for their order). -/
def outReported (n : SectionNo) (s : State) : State :=
  let x := s.sections[n]
  let c := s.conds[n]
  let a := s.actions[n]
  let evaluated := x.mode.evaluates
  let live := heldByLive c a .sightLoss || heldByLive c a .memberResync
  let left := if evaluated then leavingReported n .loading s s else s
  let kinds : List Kind := [.opened, .downed] ++ (if evaluated then [] else [.sightLoss, .memberResync]) ++
    [.actionFailed, .backupCalled]
  let cleared := kinds.foldl (clearingReported n c .loading) left
  let latched := (a.cause = .opened ∧ c.opened ≠ none) ∨ (a.cause = .downed ∧ c.downed ≠ none)
  let dropped := (a.state = .held ∧ ¬(evaluated = true ∧ live = true)) ∨ (a.state = .pending ∧ a.attempts = 0 ∧ latched)
  queueReport (.sec n) (.sectionState x.mode .off .loading 0)
    (if dropped then cancelReported n a .loading cleared else cleared)

/-- The captures once a FILLING one of section `n` has frozen short, if the section was in HOLDOFF, WATCH or BLIND
(R164). -/
def FrozenShort (n : SectionNo) (s t : State) : Prop :=
  ∀ i : CaptureNo, t.captures[i] =
    if s.sections[n].mode.evaluates = true ∧ fillingFor n s = some i then
      { s.captures[i] with state := .frozen, short := true }
    else s.captures[i]

/-- A section entry out of service, its words, entry state and reason as given: a VALID one is OFF, with its state
cleared in every block but the capture-missed mark, and any other changes no more than its entry (R73). -/
structure SectionOut (n : SectionNo) (w : Vector Word 6) (entry : EntryState) (reason : SectionReason) (s t : State) :
    Prop where
  frame : t = { s with sections := t.sections, conds := t.conds, actions := t.actions, captures := t.captures
                       report := t.report }
  others : ∀ j, j ≠ n → t.sections[j] = s.sections[j] ∧ t.conds[j] = s.conds[j]
  left : s.sections[n].entry = .valid →
    t.sections[n] = { SectionState.blank with words := w, entry := entry, reason := reason } ∧
    t.conds[n] = ConditionSet.empty ∧ t.actions[n] = ActionRecord.none ∧
    (∀ b, b ≠ n → t.actions[b] = leftLists n s.actions[b]) ∧ FrozenShort n s t ∧ t.report = (outReported n s).report
  same : s.sections[n].entry ≠ .valid →
    t = { s with sections := s.sections.set n { s.sections[n] with words := w, entry := entry, reason := reason } }

/-- The first `k` words of a section entry written, fewer than its six: it stays LOADING (R69, R73). -/
def SectionLoading (n : SectionNo) (k : Nat) (w : Vector Word 6) (s t : State) : Prop :=
  SectionOut n (wordsAfter k s.sections[n].words w) .loading .good s t

/-- A section entry written whole and committed (R69, R70, R72, R73, R158). -/
def SectionWritten (n : SectionNo) (w : Vector Word 6) (s t : State) : Prop :=
  ∃ reason, SectionChecked n w s reason ∧
    (reason = .good →
      t = { s with sections := s.sections.set n { SectionState.blank with words := w, entry := .valid, mode := .arming }
                   conds := s.conds.set n ConditionSet.empty, missed := s.missed.set n false, actions := t.actions
                   captures := t.captures, report := t.report } ∧
      t.actions[n] = ActionRecord.none ∧ (∀ b, b ≠ n → t.actions[b] = leftLists n s.actions[b]) ∧
      (s.sections[n].entry = .valid → FrozenShort n s t ∧
        t.report = (queueReport (.sec n) (.sectionState .off .arming .commit 0) (outReported n s)).report) ∧
      (s.sections[n].entry ≠ .valid → t.captures = s.captures ∧
        t.report = (queueReport (.sec n) (.sectionState s.sections[n].mode .arming .commit 0) s).report)) ∧
    (reason ≠ .good → SectionOut n w .invalid reason s t)

/-! ## Invariants -/

/-- The queues hold no more than their capacities (R8, R9, R10, R173), and while any owed mark is set the report queue
is full (R175). -/
structure QueuesHold (s : State) : Prop where
  toStation : s.port.toStation.length ≤ 32
  toField : s.port.toField.length ≤ 32
  intake : s.port.intake.length ≤ 4
  actionList : s.port.actionList.length ≤ 4
  report : s.report.queue.length ≤ 64
  owed : ∀ o, s.report.owed o = true → s.report.queue.length = 64

/-- The action records (8.1, R152): an origin list holds no section twice and never the record's own section, and the
record of every section it holds is FAILED (R150, R152, R158); a record in NONE is empty, and a HELD one has made no
attempt. -/
structure ActionsHold (s : State) : Prop where
  distinct : ∀ n : SectionNo, s.actions[n].origins.Nodup
  notSelf : ∀ n : SectionNo, n ∉ s.actions[n].origins
  failed : ∀ b n : SectionNo, n ∈ s.actions[b].origins → s.actions[n].state = .failed
  empty : ∀ n : SectionNo, s.actions[n].state = .noAction →
    s.actions[n].attempts = 0 ∧ s.actions[n].firstSent = none ∧ s.actions[n].lastSent = none ∧ s.actions[n].origins = []
  held : ∀ n : SectionNo, s.actions[n].state = .held →
    s.actions[n].attempts = 0 ∧ s.actions[n].firstSent = none ∧ s.actions[n].lastSent = none

/-- The capture buffers and the history rings (R88, R160 to R164). -/
structure CapturesHold (s : State) : Prop where
  history : ∀ n : SectionNo, s.sections[n].history.length ≤ 8
  pre : ∀ i : CaptureNo, s.captures[i].pre ≤ 8
  post : ∀ i : CaptureNo, s.captures[i].post ≤ 8
  counts : ∀ i : CaptureNo, s.captures[i].records.length = s.captures[i].pre + s.captures[i].post
  filling : ∀ i : CaptureNo, s.captures[i].state = .filling → 1 ≤ s.captures[i].post ∧ s.captures[i].post ≤ 7
  free : ∀ i : CaptureNo, s.captures[i].state = .free → s.captures[i] = Capture.cleared
  one : ∀ i j : CaptureNo, s.captures[i].state = .filling → s.captures[j].state = .filling →
    s.captures[i].sec = s.captures[j].sec → i = j

/-- The section states in which nothing has accumulated (R98, R106). -/
def SectionMode.quiet : SectionMode → Bool
  | .off | .arming | .holdoff => true
  | .watch | .blind | .deenergized | .latched => false

/-- The entry that a table word belongs to is LOADING; the settings have no entry state. -/
def TableWord.loading (t : TableWord) (s : State) : Prop :=
  match t with
  | .settings _ => True
  | .stream m _ => s.slots[m].entry = .loading
  | .profile p _ => s.profiles[p].entry = .loading
  | .sec n _ => s.sections[n].entry = .loading

/-- A WRITE that stands within an entry has it LOADING (R184), and no request has an effect before start-up is over
(R180, R189). -/
structure WritesHold (s : State) : Prop where
  within : ∀ (e : MgmtExec) (w : TableWrite) (t : TableWord), s.executing = some e → e.writing = some w →
    tableWordAt w.address = some t → t.first = false → t.loading s
  starting : s.boot ≠ .over → s.mode = .starting ∧
    ∀ e : MgmtExec, s.executing = some e → e.mode = .starting ∧ e.writing = none

/-- A VALID section names two VALID profiles (R70, R118), and a VALID profile has passed its checks (R117): no profile
that a WRITE under way still has to reach is in use. -/
structure TablesHold (s : State) : Prop where
  writes : WritesHold s
  off : ∀ n : SectionNo, s.sections[n].mode = .off ↔ s.sections[n].entry ≠ .valid
  profiles : ∀ (n : SectionNo) (h : Hazard), s.sections[n].entry = .valid →
    s.profiles[profileAt s.sections[n].words h].entry = .valid
  checked : ∀ p : ProfileNo, s.profiles[p].entry = .valid → validateProfile s.profiles[p].words = .good
  free : ∀ (e : MgmtExec) (w : TableWrite) (i : Nat) (p : ProfileNo) (k : Fin 12), s.executing = some e →
    e.writing = some w → i < w.words.length → tableWordAt (w.address + i) = some (.profile p k) →
    profileInUse p s = false

/-- The detection state stays in its ranges, each outcome window in increasing epoch order, and accumulators and open
counts are 0 in OFF, ARMING and HOLDOFF (R92, R98, R100, R104, R106). -/
structure DetectionHolds (s : State) : Prop where
  tables : TablesHold s
  acc : ∀ (n : SectionNo) (p : Phase), (s.sections[n].phases.get p).acc ≤ 65535
  count : ∀ (n : SectionNo) (p : Phase), (s.sections[n].phases.get p).openCount ≤ 255
  window : ∀ (n : SectionNo) (p : Phase), (s.sections[n].phases.get p).window.length ≤ 32
  order : ∀ (n : SectionNo) (p : Phase),
    (s.sections[n].phases.get p).window.Pairwise (fun x y => 0 < serialDiff x.epoch y.epoch)
  prev : ∀ (n : SectionNo) (p : Phase) (q : Nat), (s.sections[n].phases.get p).prev = some q → q ≤ 46339
  incomplete : ∀ n : SectionNo, s.sections[n].incomplete ≤ 255
  holdoff : ∀ n : SectionNo, s.sections[n].holdoff ≤ 255
  quiet : ∀ (n : SectionNo) (p : Phase), s.sections[n].mode.quiet = true →
    (s.sections[n].phases.get p).acc = 0 ∧ (s.sections[n].phases.get p).openCount = 0

/-- A section is OFF exactly while its entry is not VALID, and its condition set is empty then (5.2, R122); SIGHT_LOSS
is set exactly while it is BLIND (R78), and MEMBER_RESYNC only in HOLDOFF, WATCH and BLIND (R125, R83). -/
structure SectionsHold (s : State) : Prop where
  writes : WritesHold s
  off : ∀ n : SectionNo, s.sections[n].mode = .off ↔ s.sections[n].entry ≠ .valid
  empty : ∀ n : SectionNo, s.sections[n].entry ≠ .valid → s.conds[n] = ConditionSet.empty
  blind : ∀ n : SectionNo, s.sections[n].mode = .blind ↔ s.conds[n].sightLoss.isSome = true
  resync : ∀ n : SectionNo, s.conds[n].memberResync.isSome = true → s.sections[n].mode.evaluates = true

/-- A slot has a stream state exactly while its entry is VALID (2.2); the ring of a slot without one, or in ACQUIRING,
is empty (R50); a record stands at its epoch's position (R53); no two VALID entries hold one identifier (R18); the
counts stay in their ranges (R23, R33). -/
structure StreamsHold (s : State) : Prop where
  writes : WritesHold s
  valid : ∀ m : SlotNo, s.slots[m].entry = .valid ↔ s.slots[m].stream ≠ .noState
  empty : ∀ m : SlotNo, s.slots[m].stream = .noState ∨ s.slots[m].stream = .acquiring → s.slots[m].ring = emptyRing
  place : ∀ (m : SlotNo) (p : Fin 16) (r : SlotRecord), s.slots[m].ring[p] = some r → r.epoch.toNat % 16 = p.val
  unique : ∀ m j : SlotNo, s.slots[m].entry = .valid → s.slots[j].entry = .valid →
    streamId s.slots[m].words = streamId s.slots[j].words → m = j
  errors : ∀ m : SlotNo, s.slots[m].errors ≤ 255
  stale : ∀ m : SlotNo, s.slots[m].staleCount ≤ 255

end Sys2Proof.Machine
end

