-- ==== Sys2Proof/Certificates/Slice0/Obligations.lean ====
section
/-! DEFINITION. The statements for the provers. Where a docstring names a log entry, the statement rests on a choice of
the model, not on the manual alone. -/

open Sys2Proof Sys2Proof.Machine

/-! ## The step -/

/-- With a command at the front of its queue the part executes it with the queue's rest; with none it idles (log entry
12). -/
def Obligations.StepRunsFrontCommand : Prop :=
  (∀ (c : Instr) (rest : List Instr) (s : State),
    step { s with pending := c :: rest } = exec c { s with pending := rest }) ∧
  ∀ s : State, s.pending = [] → step s = .next s

/-- No command faults, and a command is refused exactly when it does not carry the words that the reading of the
configuration memory it stands for has read (R197, log entry 24). -/
def Obligations.RefusesIncompleteReadingsOnly : Prop :=
  (∀ (c : Instr) (s : State),
    (∃ t, exec c s = .next t) ∨
    (exec c s = .refused .incompleteReading ∧
      ((∃ words, c = .imagePass1 words ∧ s.boot = .pass1 ∧ words.length ≠ pass1Length words) ∨
       ∃ header data p, c = .loadRecord header data ∧ s.boot = .pass2 p ∧ data.length ≠ header.toNat % 65536 ∧
         p.taken + 1 + header.toNat % 65536 ≤ p.wordCount))) ∧
  (∀ (words : List Word) (s : State), s.boot = .pass1 → words.length ≠ pass1Length words →
    exec (.imagePass1 words) s = .refused .incompleteReading) ∧
  ∀ (header : Word) (data : List Word) (p : Pass2) (s : State), s.boot = .pass2 p → p.ended = false →
    p.taken + 1 + header.toNat % 65536 ≤ p.wordCount → data.length ≠ header.toNat % 65536 →
    exec (.loadRecord header data) s = .refused .incompleteReading

/-! ## Reset and start-up -/

/-- R189 with R14, R35, R49, R66, R91, R134, R158, R169, R179, R181, R185: POWER_ON_RESET puts every block to its reset
values. The pins, the links, the choices of order and the waiting commands are the outside's (log entries 8, 26). R189,
R14: while RESET_N is low a frame that arrives is lost, and no command does anything but POWER_ON_RESET, RESET_RELEASE and
those of the links (log entry 28), a command that brings TAG leaving only that (log entry 13). -/
def Obligations.PowerOnResetResult : Prop :=
  BlankValues ∧
  (∀ (c : Instr) (s : State), s.boot = .resetLow → c ≠ .powerOnReset → (∀ bootSel tag, c ≠ .resetRelease bootSel tag) →
    (∀ port, c ≠ .linkDown port ∧ c ≠ .linkUp port) →
    exec c s = .next (match c with
      | .frameReceived _ tag _ _ => s.tagged tag
      | .epochRefTick tag => s.tagged tag
      | .holdoverExpiry tag => s.tagged tag
      | .stationTransmitterTake tag => s.tagged tag
      | .mgmtFrameTaken _ tag => s.tagged tag
      | .identify tag => s.tagged tag
      | _ => s)) ∧
  ∀ s : State, exec .powerOnReset s = .next
    { pins := s.pins
      port :=
        { fieldUp := s.port.fieldUp, stationUp := s.port.stationUp, toStation := [], toField := [], intake := []
          replyHold := none, actionList := [], stationTx := none, fieldTx := none }
      slots := Vector.replicate 64
        { words := Vector.replicate 6 0, entry := .empty, reason := .good, stream := .noState
          sticky := ⟨false, false, false, false, false, false⟩, errors := 0, position := .unknown, everLocked := false
          staleCount := 0, ring := Vector.replicate 16 none }
      clock := { c := 0, state := .unset, announce := none, progress := .nothing, timer := none }
      closureMark := none
      sections := Vector.replicate 32
        { words := Vector.replicate 6 0, entry := .empty, reason := .good, mode := .off, next := 0, incomplete := 0
          holdoff := 0, history := []
          phases := ⟨⟨0, 0, [], none⟩, ⟨0, 0, [], none⟩, ⟨0, 0, [], none⟩⟩ }
      conds := Vector.replicate 32
        { opened := none, downed := none, sightLoss := none, memberResync := none, actionFailed := none
          backupCalled := none, openPhases := ⟨false, false, false⟩, downedPhases := ⟨false, false, false⟩ }
      profiles := Vector.replicate 8 { words := Vector.replicate 12 0, entry := .empty, reason := .good }
      hazard := .elevated
      actions := Vector.replicate 32
        { state := .noAction, cause := .escalation, target := 0, attempts := 0, firstSent := none, lastSent := none
          origins := [] }
      captures := Vector.replicate 4
        { state := .free, sec := 0, triggerEpoch := 0, trigger := .downedPickup, profile := 0, short := false, pre := 0
          post := 0, records := [] }
      missed := Vector.replicate 32 false
      report :=
        { queue := [], owedDevice := false, owedSections := Vector.replicate 32 false
          owedSlots := Vector.replicate 64 false }
      settings := #v[0x00000402, 0x00000100, 0, 0]
      mode := .starting
      imageStatus := .noImage
      imageIdentity := none
      boot := .resetLow
      executing := none
      lastResult := none
      order := s.order
      orderIndex := s.orderIndex
      pending := s.pending }

/-- R189, R192, R38, R44, R120, R139: the release of RESET_N reads the pins, starts the holdover timer at 1.5 periods and
restarts the acceptance progress; with BOOT_SEL low start-up ends at once, with BOOT_SEL high pass 1 begins. -/
def Obligations.ResetReleaseResult : Prop :=
  ∀ (tag : BitVec 10) (s : State), s.boot = .resetLow →
    let clock : EpochClock :=
      { s.clock with progress := restartProgress (syncMode s.settings), timer := some (epochPeriod s.settings * 3 / 2) }
    exec (.resetRelease true tag) s = .next { s with pins := ⟨tag, true⟩, clock := clock, boot := .pass1 } ∧
    ∃ t, exec (.resetRelease false tag) s = .next t ∧
      t = { s with pins := ⟨tag, false⟩, clock := clock, boot := .over, mode := .active
                   hazard := if s.settings[1].getLsbD 8 then .elevated else .normal, actions := t.actions } ∧
      ∀ n : SectionNo, t.actions[n] = releasedRecord s.actions[n] (permitOn s.sections[n].words)

/-- R190, R191, R192, R197: pass 1 succeeds on the mark, a word count up to 4096 and the sum of the body words mod 2³², and
pass 2 begins; otherwise the image is REJECTED and start-up ends. When pass 2 has read the body, END_OF_START_UP gives
the image its status, by the check word read then, and its identity, and makes the device ACTIVE. -/
def Obligations.ImageReadingResult : Prop :=
  (∀ (words : List Word) (s : State), s.boot = .pass1 → words.length = pass1Length words →
    let w := (words.getD 2 0).toNat
    let good := (words.getD 0 0).toNat / 65536 = 0x4E57 ∧ w ≤ 4096 ∧
      (((words.drop 3).take w).map BitVec.toNat).sum % 2 ^ 32 = (words.getD (3 + w) 0).toNat
    let first : Pass2 :=
      { identity := words.getD 1 0, wordCount := w, taken := 0, sum := 0, errors := false, ended := false }
    (good → exec (.imagePass1 words) s = .next { s with boot := .pass2 first }) ∧
    (¬good → ∃ t, exec (.imagePass1 words) s = .next t ∧
      t = { s with boot := .over, mode := .active, imageStatus := .rejected
                   hazard := if s.settings[1].getLsbD 8 then .elevated else .normal, actions := t.actions } ∧
      ∀ n : SectionNo, t.actions[n] = releasedRecord s.actions[n] (permitOn s.sections[n].words))) ∧
  ∀ (p : Pass2) (check : Word) (s : State), s.boot = .pass2 p → (p.ended = true ∨ p.wordCount ≤ p.taken) →
    ∃ t, exec (.endOfStartUp check) s = .next t ∧
      t = { s with boot := .over, mode := .active
                   imageStatus := if p.errors = true ∨ p.sum ≠ check then .appliedWithErrors else .applied
                   imageIdentity := some p.identity
                   hazard := if s.settings[1].getLsbD 8 then .elevated else .normal, actions := t.actions } ∧
      ∀ n : SectionNo, t.actions[n] = releasedRecord s.actions[n] (permitOn s.sections[n].words)

/-- R191, R197, R184: a load record that R183 would refuse is skipped and the status marked; one that runs past the end of
the body is skipped and pass 2 ends there; any other does what a WRITE of its address and words does to a part that
answers requests, over several entries or part of one too. A record of the settings, of a whole stream, profile or
section entry leaves what its rules give (R185, R62; R16, R17; R116, R117; R69, R70). -/
def Obligations.LoadRecordResult : Prop :=
  ∀ (header : Word) (data : List Word) (p : Pass2) (s : State), s.boot = .pass2 p → p.ended = false →
    p.taken < p.wordCount →
    let address := header.toNat / 65536
    let count := header.toNat % 65536
    let taken : Pass2 := { p with taken := p.taken + 1 + count, sum := p.sum + header + data.foldl (fun a w => a + w) 0 }
    let applied (t : State) : Prop := exec (.loadRecord header data) s = .next { t with boot := .pass2 taken }
    (p.wordCount < p.taken + 1 + count → exec (.loadRecord header data) s = .next
      { s with boot := .pass2 { p with errors := true, ended := true } }) ∧
    (p.taken + 1 + count ≤ p.wordCount → data.length = count →
      (∀ code, writeRefusal address data s = some code →
        exec (.loadRecord header data) s = .next { s with boot := .pass2 { taken with errors := true } } ∧
        exec (.write (BitVec.ofNat 16 address) data) { s with mode := .active, executing := none } =
          .next (State.answered { s with mode := .active, executing := none } 2 code [0])) ∧
      (writeRefusal address data s = none →
        ∃ (t : State) (committed : List Byte),
          exec (.write (BitVec.ofNat 16 address) data) { s with mode := .active, executing := none } =
            .next (t.answered 2 .ok committed) ∧
          applied { t with mode := s.mode, executing := s.executing, lastResult := s.lastResult }) ∧
      (∀ a b c d, data = [a, b, c, d] → address = 0 → 1 ≤ allowanceL #v[a, b, c, d] → allowanceL #v[a, b, c, d] ≤ 12 →
        applied
          { s with settings := #v[a, b, c, d]
                   clock := { s.clock with progress := restartProgress (syncMode #v[a, b, c, d]) }
                   slots :=
                     if allowanceL #v[a, b, c, d] < allowanceL s.settings then
                       s.slots.map (fun x =>
                         { x with ring := discardThrough (s.clock.c - BitVec.ofNat 16 (allowanceL #v[a, b, c, d])) x.ring })
                     else s.slots }) ∧
      (∀ (m : SlotNo) (w : Vector Word 6), data = w.toList → address = 0x0100 + 6 * m.val →
        ∃ t, applied t ∧ StreamWritten m w s t) ∧
      (∀ (q : ProfileNo) (w : Vector Word 12), data = w.toList → address = 0x0300 + 12 * q.val →
        profileInUse q s = false → ∃ t, applied t ∧ ProfileWritten q w s t) ∧
      (∀ (n : SectionNo) (w : Vector Word 6), data = w.toList → address = 0x0400 + 6 * n.val →
        s.actions[n].state ≠ .pending → s.actions[n].state ≠ .sent → ∃ t, applied t ∧ SectionWritten n w s t))

/-- R180: in STARTING every request is answered NOT_READY and has no effect; IDENTIFY brings TAG (log entry 13). -/
def Obligations.RequestsNotReadyInStarting : Prop :=
  ∀ (c : Instr) (code : Byte) (s : State), requestOf c = some code → Running s → s.mode = .starting →
    s.executing = none →
    let read : State := match c with
      | .identify tag => s.tagged tag
      | _ => s
    exec c s = .next (read.answered code .notReady (if code = 2 then [0] else []))

/-! ## Ports -/

/-- R1: a link going DOWN abandons the frame in transmission and leaves the queues; a link coming UP leaves everything
else as it stands. -/
def Obligations.LinkCommandsResult : Prop :=
  ∀ s : State,
    exec (.linkDown .field) s = .next { s with port := { s.port with fieldUp := false, fieldTx := none } } ∧
    exec (.linkDown .station) s = .next { s with port := { s.port with stationUp := false, stationTx := none } } ∧
    exec (.linkUp .field) s = .next { s with port := { s.port with fieldUp := true } } ∧
    exec (.linkUp .station) s = .next { s with port := { s.port with stationUp := true } }

/-- R2, R1, R3, R4, R5, R8, R9, R7: a frame that fails the Ethernet check, or arrives at a DOWN link, is discarded; a
received frame that is no MEASURE or DESCRIBE frame (field port), or no SYNC or own MGMT frame (station port), joins the
forwarding queue towards the other port unless it holds 32 frames; a MGMT frame of the part's own TAG joins the intake
unless it holds 4. Nothing else changes but TAG (log entry 13). -/
def Obligations.FramesForwardedOrDiscarded : Prop :=
  ∀ (tag : BitVec 10) (bytes : List Byte) (s : State), Running s →
    (∀ (port : Port) (ok : Bool), (ok = false ∨ bytes.length < 64 ∨ 2560 < bytes.length ∨ s.port.up port = false) →
      exec (.frameReceived port tag ok bytes) s = .next (s.tagged tag)) ∧
    (64 ≤ bytes.length → bytes.length ≤ 2560 → s.port.fieldUp = true → (∀ f, parseFrame bytes ≠ .measure f) →
      (∀ f, parseFrame bytes ≠ .describe f) →
      exec (.frameReceived .field tag true bytes) s =
        .next { s.tagged tag with port := { s.port with toStation := joined 32 s.port.toStation bytes } }) ∧
    (64 ≤ bytes.length → bytes.length ≤ 2560 → s.port.stationUp = true → (∀ e, parseFrame bytes ≠ .sync e) →
      (∀ source requests, parseFrame bytes ≠ .mgmt (tag.setWidth 16) source requests) →
      exec (.frameReceived .station tag true bytes) s =
        .next { s.tagged tag with port := { s.port with toField := joined 32 s.port.toField bytes } }) ∧
    (64 ≤ bytes.length → bytes.length ≤ 2560 → s.port.stationUp = true →
      ∀ source requests, parseFrame bytes = .mgmt (tag.setWidth 16) source requests →
      exec (.frameReceived .station tag true bytes) s =
        .next { s.tagged tag with port := { s.port with intake := joined 4 s.port.intake bytes } })

/-- R43, R44, R8: a SYNC frame from the station port is forwarded, and used or ignored by the row of the acceptance
table that the mode and the progress name. -/
def Obligations.SyncFrameFollowsAcceptance : Prop :=
  ∀ (tag : BitVec 10) (bytes : List Byte) (e : Epoch) (s : State), Running s → s.port.stationUp = true →
    64 ≤ bytes.length → bytes.length ≤ 2560 → parseFrame bytes = .sync e →
    ∀ (mode : SyncMode) (before after : Progress) (used : Bool),
      (mode, before, used, after) ∈
        [(SyncMode.every, Progress.nothing, true, Progress.nothing), (.nextOnly, .waiting, true, .done),
         (.nextOnly, .done, false, .done), (.skipOneThenEvery, .skipping, false, .passing),
         (.skipOneThenEvery, .passing, true, .passing), (.off, .nothing, false, .nothing)] →
      syncMode s.settings = mode → s.clock.progress = before →
      exec (.frameReceived .station tag true bytes) s = .next
        { s.tagged tag with
          port := { s.port with toField := joined 32 s.port.toField bytes }
          clock := { s.clock with progress := after, announce := if used then some e else s.clock.announce } }

/-- R11, R12, R1, R174: the station transmitter takes the reply first, then a REPORT frame of the oldest 1 to 8 records,
then the head of its forwarding queue; the field transmitter takes the oldest ACTION frame first, then the head of its
forwarding queue; each is IDLE when none waits, and what it takes on a DOWN link is discarded. A frame assembled at the
taking carries TAG as it stands then. The REPORT case here is the one with no owed mark set. That a listed ACTION frame is
taken in every device mode, SUSPENDED among them, is log entry 37 (DEDUCED). -/
def Obligations.TransmittersTakeInPrecedence : Prop :=
  ∀ (tag : BitVec 10) (s : State), Running s →
    let read := s.tagged tag
    let toStation (f : LineFrame) : Option LineFrame := if s.port.stationUp then some f else none
    let toField (f : LineFrame) : Option LineFrame := if s.port.fieldUp then some f else none
    (∀ r, s.port.replyHold = some r → exec (.stationTransmitterTake tag) s = .next
      { read with port := { s.port with replyHold := none, stationTx := toStation (.device (replyBytes r read)) } }) ∧
    (s.port.replyHold = none → s.report.queue ≠ [] → (∀ o, s.report.owed o = false) →
      exec (.stationTransmitterTake tag) s = .next
        { read with port := { s.port with stationTx := toStation (.device (reportBytes (s.report.queue.take 8) read)) }
                    report := { s.report with queue := s.report.queue.drop 8 } }) ∧
    (s.port.replyHold = none → s.report.queue = [] → ∀ f rest, s.port.toStation = f :: rest →
      exec (.stationTransmitterTake tag) s = .next
        { read with port := { s.port with toStation := rest, stationTx := toStation (.forwarded f) } }) ∧
    (s.port.replyHold = none → s.report.queue = [] → s.port.toStation = [] →
      exec (.stationTransmitterTake tag) s = .next { read with port := { s.port with stationTx := none } }) ∧
    (∀ a rest, s.port.actionList = a :: rest → exec .fieldTransmitterTake s = .next
      { s with port := { s.port with actionList := rest, fieldTx := toField (.device a.bytes) } }) ∧
    (s.port.actionList = [] → ∀ f rest, s.port.toField = f :: rest → exec .fieldTransmitterTake s = .next
      { s with port := { s.port with toField := rest, fieldTx := toField (.forwarded f) } }) ∧
    (s.port.actionList = [] → s.port.toField = [] → exec .fieldTransmitterTake s = .next
      { s with port := { s.port with fieldTx := none } })

/-- R174, R175, R176: a REPORT frame of the oldest 1 to 8 records is taken (R1: discarded on a DOWN link), and at the same
taking the originators owed, DEVICE first, then the sections and then the slots by number, are summarized into the free
places of the queue, each by the state that R176 lists for it as it stands, and exactly their marks are cleared. R170,
R173: a record handed to the report unit joins the tail of a queue of fewer than 64 records, with its originator, its
detail and the epoch C, NONE while the clock is UNSET, and no mark changes; a queue of 64 stays, and exactly the mark of
the originator is set. -/
def Obligations.TakingSummarizesOwed : Prop :=
  (∀ (o : Originator) (d : Detail) (s : State),
    let t := queueReport o d s
    let record : ReportRecord :=
      { origin := o, epoch := if s.clock.state = .unset then none else some s.clock.c, detail := d }
    t = { s with report := t.report } ∧
    (s.report.queue.length < 64 → t.report = { s.report with queue := s.report.queue ++ [record] }) ∧
    (64 ≤ s.report.queue.length → t.report.queue = s.report.queue ∧
      ∀ other, t.report.owed other = true ↔ other = o ∨ s.report.owed other = true)) ∧
  ∀ (tag : BitVec 10) (s : State), Running s → s.port.replyHold = none → s.report.queue ≠ [] →
    s.report.queue.length ≤ 64 →
    let read := s.tagged tag
    let owed := originatorsInOrder.filter s.report.owed
    let kept := s.report.queue.drop 8
    let reached := owed.take (64 - kept.length)
    let taken := if s.port.stationUp then some (.device (reportBytes (s.report.queue.take 8) read)) else none
    let summary (o : Originator) : Detail :=
      match o with
      | .device =>
        .summaryDevice s.clock.state s.clock.c s.clock.announce s.hazard s.mode s.imageStatus (alarmA s) (alarmB s)
      | .sec n =>
        .summarySection s.sections[n].entry s.sections[n].mode s.sections[n].next s.sections[n].incomplete s.conds[n]
          s.actions[n] s.missed[n]
      | .slot m =>
        .summarySlot s.slots[m].entry (streamId s.slots[m].words) s.slots[m].stream s.slots[m].sticky s.slots[m].errors
          s.slots[m].position
    let epoch : Option Epoch := if s.clock.state = .unset then none else some s.clock.c
    ∃ t, exec (.stationTransmitterTake tag) s = .next t ∧
      t.report.queue =
        kept ++ reached.map (fun o => { origin := o, epoch := epoch, detail := summary o }) ∧
      (∀ o, t.report.owed o = true ↔ s.report.owed o = true ∧ o ∉ reached) ∧
      t = { read with port := { s.port with stationTx := taken }, report := t.report }

/-- R13, R4, R9, R143, R174, 12.2 to 12.5: a device frame of the part is a well-formed Line Stream frame of its kind, at
least 64 bytes long, with its addresses, stream and epoch in its header and at its end the check sequence the port
computes from the bytes before it (log entry 6 for what that sequence is). Its payload is that of 12.3: for ACTION the
request OPEN, the section, the cause and the attempt; for REPORT TAG and the records in their order, each laid out by
12.4 (the bytes of a NONE field are 0: DEDUCED, log entry 36); for MGMT_REPLY TAG and the results in their order. R3,
R4: what the bytes of a received frame read as, and when they are another protocol's or malformed: a version, a kind, a
count, a stream identifier or a code out of its range, or a payload length other than its contents call for. -/
def Obligations.DeviceFramesWellFormed : Prop :=
  FramesRead ∧
  ∀ s : State,
    let sent (frame dest : List Byte) (tag : BitVec 10) (stream : BitVec 16) (epoch : Epoch) (payload : List Byte) : Prop :=
      parseFrame frame = .passing ∧ 64 ≤ frame.length ∧ frame.take 6 = dest ∧
      (frame.drop 6).take 6 = [0x02, 0x4E, 0x5A, 0x26] ++ bytes16 (tag.setWidth 16) ∧
      be16At frame 16 = stream ∧ be16At frame 18 = epoch ∧ (be16At frame 20).toNat = payload.length ∧
      (frame.drop 22).take payload.length = payload ∧
      frame.drop (frame.length - 4) = bytes32 (Config.frameCheck (frame.take (frame.length - 4)))
    let epoch : Epoch := if s.clock.state = .unset then 0 else s.clock.c
    let result (r : Result) : List Byte :=
      laidOut [(1, r.request.toNat), (1, r.code.code), (2, r.data.length)] ++ r.data
    (∀ f : ActionFrame, f.bytes.length = 64 ∧
      sent f.bytes [0x03, 0x4E, 0x5A, 0, 0, 2] f.tag f.stream f.epoch
        (laidOut [(1, 1), (1, f.sec.val), (1, f.cause.code), (1, f.attempt)])) ∧
    (∀ records : List ReportRecord, 1 ≤ records.length → records.length ≤ 8 →
      sent (reportBytes records s) [0x03, 0x4E, 0x5A, 0, 0, 1] s.pins.tag 0 epoch
        (laidOut [(2, s.pins.tag.toNat), (1, records.length), (1, 0)] ++ (records.map recordLaidOut).flatten)) ∧
    (∀ r : Reply, r.dest.length = 6 → r.results.length ≤ 8 → (∀ x ∈ r.results, x.data.length ≤ 256) →
      sent (replyBytes r s) r.dest s.pins.tag 0 epoch
        (laidOut [(2, r.tag.toNat), (1, r.results.length)] ++ (r.results.map result).flatten))

/-! ## Streams -/

/-- R20, R21, R23, R6: at an ACQUIRING slot a DESCRIBE frame that carries the expected scale code and, at each mapped
quantity's channel index, that quantity's code locks the stream and is reported; at a LOCKED or STALE slot it changes
nothing; a frame that does not match is DESCRIPTOR_MISMATCH, and the stream is or becomes ACQUIRING. One whose identifier
is unmapped is forwarded and ignored. R18: the lookup finds a slot whose VALID entry holds the identifier, and none where
no VALID entry does. R23: an error sets the sticky flag of its kind and leaves the others. -/
def Obligations.DescribeFrameResult : Prop :=
  ErrorFlagsNamed ∧
  (∀ (stream : BitVec 16) (s : State),
    let holds (m : SlotNo) : Prop := s.slots[m].entry = .valid ∧ streamId s.slots[m].words = stream
    (lookup stream s = none ↔ ∀ m, ¬holds m) ∧ (∀ m, lookup stream s = some m → holds m) ∧
    ∀ m, holds m → (∀ j, holds j → j = m) → lookup stream s = some m) ∧
  ∀ (tag : BitVec 10) (bytes : List Byte) (f : DescribeFrame) (s : State), Running s → s.port.fieldUp = true →
    64 ≤ bytes.length → bytes.length ≤ 2560 → parseFrame bytes = .describe f →
    let forwarded : PortState := { s.port with toStation := joined 32 s.port.toStation bytes }
    (lookup f.stream s = none →
      exec (.frameReceived .field tag true bytes) s = .next { s.tagged tag with port := forwarded }) ∧
    ∀ m : SlotNo, lookup f.stream s = some m →
    let x := s.slots[m]
    let matched := f.scale = expectedScale x.words ∧
      ∀ (q : Quantity) (i : Nat), mapIndex x.words q = some i → f.codes[i]? = some (q.index + 1)
    let port := if consumes x.words then s.port else forwarded
    ∃ t, exec (.frameReceived .field tag true bytes) s = .next t ∧
      t = { s.tagged tag with port := port, slots := t.slots, report := t.report } ∧
      (∀ j, j ≠ m → t.slots[j] = s.slots[j]) ∧
      (matched → x.stream = .acquiring →
        t.slots[m] = { x with stream := .locked, everLocked := true, staleCount := 0 } ∧
        t.report = (queueReport (.slot m)
          (.streamState (streamId x.words) .acquiring (.inState .locked) .matched none) s).report) ∧
      (matched → x.stream ≠ .acquiring → t.slots[m] = x ∧ t.report = s.report) ∧
      (¬matched → t.slots[m] = slotAfterError x .descriptorMismatch ∧
        t.report =
          if x.stream = .acquiring then s.report
          else (queueReport (.slot m) (.streamState (streamId x.words) x.stream (.inState .acquiring) .resync
            (some .descriptorMismatch)) s).report)

/-- R26, R27, R28, R6: a MEASURE frame whose identifier is unmapped, or whose slot is ACQUIRING, is forwarded unless
consumed and ignored. At a LOCKED or STALE slot a short frame raises CHANNEL_SHORT while the clock is set, with
STREAM_STATE where that resynchronizes the stream (R24, R172), and nothing while it is UNSET; one that covers the map while the clock is UNSET moves the last position (OPEN, CLOSED and
MOVING replace it, NONE leaves it) and hands it on. Nothing else changes but the forwarding queue, the records and the
choices of order. -/
def Obligations.MeasureShortOrUnset : Prop :=
  (∀ x : Position, FramePosition.unstated.update x = x ∧ FramePosition.opened.update x = .opened ∧
    FramePosition.closed.update x = .closed ∧ FramePosition.moving.update x = .moving) ∧
  ∀ (tag : BitVec 10) (bytes : List Byte) (f : MeasureFrame) (s : State), Running s → s.port.fieldUp = true →
    64 ≤ bytes.length → bytes.length ≤ 2560 → parseFrame bytes = .measure f →
    let forwarded : PortState := { s.port with toStation := joined 32 s.port.toStation bytes }
    (lookup f.stream s = none →
      exec (.frameReceived .field tag true bytes) s = .next { s.tagged tag with port := forwarded }) ∧
    ∀ m : SlotNo, lookup f.stream s = some m →
    let short := ∃ q i, mapIndex s.slots[m].words q = some i ∧ f.channels.length ≤ i
    let start : State := { s.tagged tag with port := if consumes s.slots[m].words then s.port else forwarded }
    (s.slots[m].stream = .acquiring → exec (.frameReceived .field tag true bytes) s = .next start) ∧
    (s.slots[m].stream = .locked ∨ s.slots[m].stream = .stale → (short ∨ s.clock.state = .unset) →
      ∃ t, exec (.frameReceived .field tag true bytes) s = .next t ∧
      (∀ j, j ≠ m → t.slots[j] = s.slots[j]) ∧
      (short → s.clock.state ≠ .unset → t.slots[m] = slotAfterError s.slots[m] .channelShort ∧
        (inResyncMask s.slots[m].words .channelShort = false → t.report = s.report) ∧
        (inResyncMask s.slots[m].words .channelShort = true → t.report = (queueReport (.slot m)
          (.streamState (streamId s.slots[m].words) s.slots[m].stream (.inState .acquiring) .resync
            (some .channelShort)) s).report)) ∧
      (short → s.clock.state = .unset → t = start) ∧
      (¬short → t.slots[m] = slotAfterPosition s.slots[m] f ∧
        PositionHanded m f { start with slots := s.slots.set m (slotAfterPosition s.slots[m] f) } t) ∧
      (short ∨ f.sensorOk = false ∨ f.position = .unstated ∨ f.position = .moving →
        t = { start with slots := t.slots, report := t.report, order := t.order, orderIndex := t.orderIndex }))

/-- R28, R29, R30, R63, R23, R24: a MEASURE frame that covers the map, with the clock set, is EARLY beyond the early
limit, or DUPLICATE there when it is for one of the epochs C + 3 and C + 4 and that epoch is held (R63 read as an
exception to R29, log entry 2); it is LATE more than L − 1 behind C, and DUPLICATE in the window when its epoch is held.
It updates the position first when its sensor_ok is yes, which is handed on, and raises SENSOR_FAULT after the epoch
error when it is no. STREAM_STATE is queued where one of the errors resynchronizes the stream, with the first such error
(R172). R29: the serial difference from x to y lies in −32768 to 32767 and takes x to y. -/
def Obligations.MeasureRefusedByEpoch : Prop :=
  (∀ x y : Epoch, -32768 ≤ serialDiff x y ∧ serialDiff x y ≤ 32767 ∧ x + BitVec.ofInt 16 (serialDiff x y) = y) ∧
  ∀ (tag : BitVec 10) (bytes : List Byte) (f : MeasureFrame) (m : SlotNo) (s : State), Running s →
    s.port.fieldUp = true → 64 ≤ bytes.length → bytes.length ≤ 2560 → parseFrame bytes = .measure f →
    lookup f.stream s = some m → (s.slots[m].stream = .locked ∨ s.slots[m].stream = .stale) →
    s.clock.state ≠ .unset → (∀ q i, mapIndex s.slots[m].words q = some i → i < f.channels.length) →
    let d := serialDiff s.clock.c f.epoch
    let limit : Int := if s.clock.state = .holdover then 4 else 2
    let behind : Int := 1 - (allowanceL s.settings : Int)
    let held := (ringRecord s.slots[m].ring f.epoch).isSome = true
    let port :=
      if consumes s.slots[m].words then s.port else { s.port with toStation := joined 32 s.port.toStation bytes }
    let moved : State :=
      { s.tagged tag with port := port, slots := s.slots.set m (slotAfterPosition s.slots[m] f) }
    ∀ k : ErrorKind,
      ((k = .early ∧ limit < d ∧ (¬held ∨ 4 < d)) ∨ (k = .late ∧ d ≤ limit ∧ d < behind) ∨
        (k = .duplicate ∧ d ≤ limit ∧ behind ≤ d ∧ held) ∨ (k = .duplicate ∧ limit < d ∧ d ≤ 4 ∧ held)) →
      ∃ u t, exec (.frameReceived .field tag true bytes) s = .next t ∧
        PositionHanded m f moved u ∧
        (∀ j, j ≠ m → t.slots[j] = s.slots[j]) ∧
        t.slots[m] = (k :: faultOf f).foldl slotAfterError (slotAfterPosition s.slots[m] f) ∧
        t.report =
          (match (k :: faultOf f).find? (inResyncMask s.slots[m].words) with
           | none => u.report
           | some first => (queueReport (.slot m)
               (.streamState (streamId s.slots[m].words) s.slots[m].stream (.inState .acquiring) .resync (some first))
               u).report) ∧
        t = { u with slots := t.slots, report := t.report, order := t.order, orderIndex := t.orderIndex } ∧
        t.clock = s.clock ∧ t.settings = s.settings ∧ t.profiles = s.profiles ∧ t.hazard = s.hazard ∧ t.port = port

/-- R31, R53, R28, R55, R85: a MEASURE frame in the window whose epoch the ring does not hold is accepted: its record, with
the mapped channels under their quantities, currents negated for INVERTED and ABSENT for the marker −32768, is stored at
position E mod 16, the stale count becomes 0, a STALE stream becomes LOCKED, and then SENSOR_FAULT is raised when its
sensor_ok is no. The store of a usable record is notified to every section that has the slot as a member, which
then evaluates epoch by epoch, those of other sections coming between or not (R84, R162), beside the frame's STREAM_STATE, which goes from the first state to the last with the cause of the last change, RESUMED or RESYNC by
SENSOR_FAULT (R24, R172). The frame is forwarded unless its stream is consumed (R6, R8). -/
def Obligations.MeasureAcceptedIsStored : Prop :=
  ∀ (tag : BitVec 10) (bytes : List Byte) (f : MeasureFrame) (m : SlotNo) (s : State), Running s →
    s.port.fieldUp = true → 64 ≤ bytes.length → bytes.length ≤ 2560 → parseFrame bytes = .measure f →
    lookup f.stream s = some m → (s.slots[m].stream = .locked ∨ s.slots[m].stream = .stale) →
    s.clock.state ≠ .unset → (∀ q i, mapIndex s.slots[m].words q = some i → i < f.channels.length) →
    serialDiff s.clock.c f.epoch ≤ (if s.clock.state = .holdover then 4 else 2) →
    1 - (allowanceL s.settings : Int) ≤ serialDiff s.clock.c f.epoch →
    (ringRecord s.slots[m].ring f.epoch).isSome = false →
    let x := slotAfterPosition s.slots[m] f
    let port := if consumes x.words then s.port else { s.port with toStation := joined 32 s.port.toStation bytes }
    let runs := (allSections.filter (fun n => m ∈ members s.sections[n].words)).map
      (fun n => List.replicate 16 (Work.evaluate n))
    ∃ (record : SlotRecord) (move : SlotMove) (u t : State),
      record.epoch = f.epoch ∧ record.faulty = !f.sensorOk ∧
      (∀ q, mapIndex x.words q = none → record.get q = .unmapped) ∧
      (∀ q i c, mapIndex x.words q = some i → f.channels[i]? = some c →
        (c.re = -32768 ∨ c.im = -32768 → record.get q = .absent) ∧
        (c.re ≠ -32768 → c.im ≠ -32768 →
          record.get q = .phasor
            (if x.words[1].getLsbD 1 = true ∧ (q = .ia ∨ q = .ib ∨ q = .ic) then ⟨-c.re, -c.im⟩ else c))) ∧
      let stored : SlotState :=
        { x with ring := x.ring.set (Fin.ofNat 16 f.epoch.toNat) (some record), stream := .locked, staleCount := 0 }
      let usable := f.sensorOk = true ∧ ∀ q, record.get q ≠ .absent
      move.slot = (faultOf f).foldl slotAfterError stored ∧
      move.cause =
        (if f.sensorOk = false ∧ inResyncMask x.words .sensorFault = true then some (.resync, some .sensorFault)
         else if x.stream = .stale then some (.resumed, none) else none) ∧
      (∀ v : State, doWork v (.streamMoved m s.slots[m].stream move) = moveReported m s.slots[m].stream move v) ∧
      exec (.frameReceived .field tag true bytes) s = .next t ∧
      PositionHanded m f { s.tagged tag with port := port, slots := s.slots.set m x } u ∧
      (usable → WorkDone ([.streamMoved m s.slots[m].stream move] :: runs)
        { u with slots := u.slots.set m move.slot } t) ∧
      (¬usable → WorkDone (singly [.streamMoved m s.slots[m].stream move])
        { u with slots := u.slots.set m move.slot } t) ∧
      t.slots = s.slots.set m move.slot ∧
      t = { s.tagged tag with port := port, slots := t.slots, sections := t.sections, conds := t.conds
                              actions := t.actions, captures := t.captures, missed := t.missed, report := t.report
                              hazard := t.hazard, executing := t.executing, order := t.order
                              orderIndex := t.orderIndex } ∧
      (hazardWaiting s = none → t.hazard = s.hazard ∧ t.executing = s.executing)

/-- R25: CLEAR_STREAM clears the flags and the count of a VALID slot and nothing else, changes nothing at another slot,
and answers BAD_VALUE to a slot number above 63. -/
def Obligations.ClearStreamResult : Prop :=
  ∀ (slot : Byte) (s : State), Serving s →
    (64 ≤ slot.toNat → exec (.clearStream slot) s = .next (s.answered 7 .badValue [])) ∧
    ∀ m : SlotNo, m.val = slot.toNat →
      (s.slots[m].entry ≠ .valid → exec (.clearStream slot) s = .next (s.answered 7 .ok [])) ∧
      (s.slots[m].entry = .valid → exec (.clearStream slot) s = .next
        (State.answered
          { s with slots := s.slots.set m
                     { s.slots[m] with sticky := ⟨false, false, false, false, false, false⟩, errors := 0 } }
          7 .ok []))

/-- R33: at a tick after which the clock is set, the stale count of every LOCKED or STALE slot rises by 1 up to 255, and
a LOCKED stream whose count has reached its limit becomes STALE; no other stream state moves. The piece of the tick's work
that does this at one slot queues STREAM_STATE with cause STALE_LIMIT where the stream becomes STALE (R172), and changes
nothing else. -/
def Obligations.TickCountsStale : Prop :=
  (∀ (m : SlotNo) (v : State),
    let x := v.slots[m]
    let counted := x.entry = .valid ∧ (x.stream = .locked ∨ x.stream = .stale)
    let k := min 255 (x.staleCount + 1)
    let reached := x.stream = .locked ∧ staleLimit x.words ≤ k
    (¬counted → doWork v (.stale m) = v) ∧
    (counted → ¬reached →
      doWork v (.stale m) = { v with slots := v.slots.set m { x with staleCount := k } }) ∧
    (counted → reached → doWork v (.stale m) =
      queueReport (.slot m) (.streamState (streamId x.words) .locked (.inState .stale) .staleLimit none)
        { v with slots := v.slots.set m { x with staleCount := k, stream := .stale } })) ∧
  ∀ (c : Instr) (tag : BitVec 10) (s : State), (c = .epochRefTick tag ∨ c = .holdoverExpiry tag) → Running s →
    (s.clock.state ≠ .unset ∨ s.clock.announce ≠ none) →
    ∃ t, exec c s = .next t ∧ ∀ m : SlotNo,
      let x := s.slots[m]
      let counted := x.entry = .valid ∧ (x.stream = .locked ∨ x.stream = .stale)
      let k := if counted then min 255 (x.staleCount + 1) else x.staleCount
      t.slots[m].staleCount = k ∧
      t.slots[m].stream =
        (if counted ∧ x.stream = .locked ∧ staleLimit x.words ≤ k then StreamState.stale else x.stream) ∧
      t.slots[m].words = x.words ∧ t.slots[m].entry = x.entry ∧ t.slots[m].sticky = x.sticky ∧
      t.slots[m].errors = x.errors ∧ t.slots[m].position = x.position ∧ t.slots[m].everLocked = x.everLocked

/-- Every step keeps the invariant of the slots: stream states, rings, identifiers and counts. -/
def Obligations.StepKeepsStreams : Prop :=
  ∀ s t : State, StreamsHold s → step s = .next t → StreamsHold t

/-! ## The clock and the alignment buffer -/

/-- R37, R38, R40, R41: a tick from EPOCH_REF and one from the expiry number C and move the clock state by the tables,
take the announcement, and start the timer afresh; a tick that leaves the clock UNSET does nothing more (R42). Otherwise
the work that R42 and R46 list is done in some interleaving (log entries 1, 21): the queuing of the CLOCK_STATE record of
R47, where the tick has one, the closures in turn, a section going on after its forced evaluation (R57, R86), the action
unit's work, the arming tests, the stale counts and the MEMBER_RESYNC tests; at a clock step the step work of R46 and R61 in the closures' place. No tick changes the settings, the profiles, the mode
or a queue but the action list and the records, nor the hazard level unless a SET_HAZARD of the frame under execution
falls within it (R111). -/
def Obligations.TickNumbersClock : Prop :=
  (∀ (d : Detail) (v : State), doWork v (.clockState d) = queueReport .device d v) ∧
  ∀ (tag : BitVec 10) (s : State), Running s →
    let k := s.clock
    let unset := k.state = .unset ∧ k.announce = none
    let c : Epoch :=
      match k.announce with
      | some n => n
      | none => if k.state = .unset then 0 else k.c + 1
    let clockStep := k.state ≠ .unset ∧ c ≠ k.c + 1
    let ticked (period : Nat) (new : ClockState) : EpochClock :=
      { c := c, state := if unset then .unset else new, announce := none, progress := k.progress, timer := some period }
    let read (clock : EpochClock) : State := { s.tagged tag with clock := clock }
    let changed (new : ClockState) : List Work :=
      let report (old : Epoch) (cause : ClockCause) : List Work := [.clockState (.clockState k.state new old c cause)]
      if k.state = .unset then report 0 .numbered
      else if c ≠ k.c + 1 then report k.c .step
      else if k.state = new then []
      else report k.c (if new = .holdover then .holdoverEntered else .pulseRestored)
    let target := c - BitVec.ofNat 16 (allowanceL s.settings)
    let closes : List Epoch := match s.closureMark with
      | none => [target]
      | some mark => (List.range (serialDiff mark target).toNat).map (fun i => mark + BitVec.ofNat 16 (i + 1))
    let active := allSections.filter (fun n => s.sections[n].mode.evaluates)
    let common : List Work :=
      (allSections.filter (fun n => s.sections[n].mode = .arming)).map Work.arm ++
      (allSlots.filter (fun m => s.slots[m].stream = .locked ∨ s.slots[m].stream = .stale)).map Work.stale ++
      active.map Work.resyncTest
    let offset := c - (k.c + 1)
    let done (changes : List Work) (u t : State) : Prop :=
      (clockStep → WorkDone (changes :: [.bufferStep target] :: [.actionStep offset, .actionTick] ::
        singly (active.map (Work.sectionStep c offset) ++ common)) u t) ∧
      (¬clockStep → ∃ closures, ClosesInTurn active (fun n => s.sections[n].next) closes closures ∧ ∃ v : State,
        v = { u with order := v.order, orderIndex := v.orderIndex } ∧
        WorkDone (changes :: closures :: [.actionTick] :: singly common) v t)
    let moved (t : State) : State :=
      { s.tagged tag with
        clock := t.clock, closureMark := t.closureMark, slots := t.slots, sections := t.sections, conds := t.conds
        actions := t.actions, captures := t.captures, missed := t.missed, report := t.report, hazard := t.hazard
        executing := t.executing, order := t.order, orderIndex := t.orderIndex
        port := { s.port with actionList := t.port.actionList } }
    ∀ (command : Instr) (new : ClockState) (period : Nat),
      ((command = .epochRefTick tag ∧ new = .run ∧ period = epochPeriod s.settings * 3 / 2) ∨
        (command = .holdoverExpiry tag ∧ new = .holdover ∧ period = epochPeriod s.settings)) →
      ∃ t, exec command s = .next t ∧ t.clock = ticked period new ∧ t = moved t ∧
        (unset → t = read (ticked period new)) ∧
        (¬unset → done (changed new) (read (ticked period new)) t) ∧
        (hazardWaiting s = none → t.hazard = s.hazard ∧ t.executing = s.executing)

/-- R57, R58, R60, R46, R61: the pieces of a tick's work close an epoch (its records discarded from every ring, the mark
moved to it) and do the step work: rings emptied and the mark set, a section's next epoch N with its previous differences
absent and its windows renumbered by k, first-sent and last-sent renumbered by k. At a tick that is no clock step, the closure mark moves to C − L when it lies behind it or
is NONE (for any positive difference, DEDUCED from R57's table, which gives +1 to +12: log entry 25), and of the records held before, those for epochs after it stay and no other; at a clock step every ring is emptied and the closure
mark becomes C − L. -/
def Obligations.TickClosesEpochs : Prop :=
  (∀ (mark : Epoch) (v : State),
    (let t := doWork v (.discard mark)
     t = { v with slots := t.slots, closureMark := some mark } ∧ ∀ m : SlotNo,
      t.slots[m] = { v.slots[m] with ring := t.slots[m].ring } ∧ ∀ (p : Fin 16) (r : SlotRecord),
        t.slots[m].ring[p] = some r ↔ v.slots[m].ring[p] = some r ∧ r.epoch ≠ mark) ∧
    doWork v (.bufferStep mark) =
      { v with slots := v.slots.map (fun x => { x with ring := Vector.replicate 16 none }), closureMark := some mark } ∧
    (v.closureMark = none → doWork v .discardBehind = v) ∧
    (v.closureMark = some mark →
      let t := doWork v .discardBehind
      t = { v with slots := t.slots } ∧ ∀ m : SlotNo,
        t.slots[m] = { v.slots[m] with ring := t.slots[m].ring } ∧ ∀ (p : Fin 16) (r : SlotRecord),
          t.slots[m].ring[p] = some r ↔ v.slots[m].ring[p] = some r ∧ serialDiff r.epoch mark < 0)) ∧
  (∀ (n : SectionNo) (next k : Epoch) (v : State),
    let stepped (p : PhaseState) : PhaseState :=
      { p with prev := none, window := p.window.map (fun o => { o with epoch := o.epoch + k }) }
    let x := v.sections[n]
    (x.mode.evaluates = false → doWork v (.sectionStep next k n) = v) ∧
    (x.mode.evaluates = true → doWork v (.sectionStep next k n) =
      { v with sections := v.sections.set n
                 { x with next := next, phases := ⟨stepped x.phases.a, stepped x.phases.b, stepped x.phases.c⟩ } })) ∧
  (∀ (k : Epoch) (v : State),
    let t := doWork v (.actionStep k)
    t = { v with actions := t.actions } ∧ ∀ n : SectionNo,
      (v.actions[n].firstSent = none → t.actions[n] = v.actions[n]) ∧
      ∀ first, v.actions[n].firstSent = some first → t.actions[n] =
        { v.actions[n] with firstSent := some (first + k), lastSent := v.actions[n].lastSent.map (fun e => e + k) }) ∧
  ∀ (c : Instr) (tag : BitVec 10) (s : State), (c = .epochRefTick tag ∨ c = .holdoverExpiry tag) → Running s →
    (s.clock.state ≠ .unset ∨ s.clock.announce ≠ none) →
    let clockStep := s.clock.state ≠ .unset ∧ ∃ n, s.clock.announce = some n ∧ n ≠ s.clock.c + 1
    ∃ t, exec c s = .next t ∧
      let target := t.clock.c - BitVec.ofNat 16 (allowanceL s.settings)
      (clockStep → t.closureMark = some target ∧ ∀ m : SlotNo, t.slots[m].ring = Vector.replicate 16 none) ∧
      (¬clockStep →
        ∃ mark, t.closureMark = some mark ∧
          (s.closureMark = none → mark = target) ∧
          (∀ k, s.closureMark = some k → 0 < serialDiff k target → mark = target) ∧
          (∀ k, s.closureMark = some k → serialDiff k target ≤ 0 → mark = k) ∧
          ∀ (m : SlotNo) (p : Fin 16) (r : SlotRecord), t.slots[m].ring[p] = some r ↔
            s.slots[m].ring[p] = some r ∧ serialDiff r.epoch mark < 0)

/-- 3.2, R41, R43: C and the clock state move at ticks and at a reset, and at no other command. -/
def Obligations.ClockMovesOnlyAtTicks : Prop :=
  ∀ (c : Instr) (s t : State), (∀ tag, c ≠ .epochRefTick tag) → (∀ tag, c ≠ .holdoverExpiry tag) →
    c ≠ .powerOnReset → exec c s = .next t →
    t.clock.c = s.clock.c ∧ t.clock.state = s.clock.state

/-! ## The detection arithmetic -/

/-- R95: the magnitude of a phasor is the largest integer whose square is not above the sum of the squares, and it lies
in 0 to 46339. R96: the difference whose magnitude is taken is U less the sum of the downstream phasors, component by
component, each component saturated to −32767 to +32767. -/
def Obligations.MagnitudeIsFloorRoot : Prop :=
  (∀ p : Phasor, -32767 ≤ p.re → p.re ≤ 32767 → -32767 ≤ p.im → p.im ≤ 32767 →
    (mag p : Int) ^ 2 ≤ p.re ^ 2 + p.im ^ 2 ∧ p.re ^ 2 + p.im ^ 2 < ((mag p : Int) + 1) ^ 2 ∧
    (∀ k : Nat, (k : Int) ^ 2 ≤ p.re ^ 2 + p.im ^ 2 → k ≤ mag p) ∧ mag p ≤ 46339) ∧
  (∀ (u : Phasor) (downs : List Phasor),
    let re := u.re - (downs.map Phasor.re).sum
    let im := u.im - (downs.map Phasor.im).sum
    let saturated (exact component : Int) : Prop :=
      (32767 < exact → component = 32767) ∧ (exact < -32767 → component = -32767) ∧
      (-32767 ≤ exact → exact ≤ 32767 → component = exact)
    saturated re (difference u downs).re ∧ saturated im (difference u downs).im ∧
    mag (difference u downs) ≤ 46339 ∧
    ∀ reordered, downs.Perm reordered → difference u reordered = difference u downs) ∧
  mag ⟨0, 0⟩ = 0 ∧ mag ⟨3, 4⟩ = 5 ∧ mag ⟨40, -10⟩ = 41 ∧ mag ⟨-32767, 0⟩ = 32767 ∧ mag ⟨32767, -32767⟩ = 46339

/-- R96, R97: umag is formed where U is measured, dmag in the full and feeder-end cases, there from the difference and from U
itself; T = pickup + a_p + floor(slope × umag / 64) in the full and feeder-end cases and in no other. For a VALID
profile, a valid load allowance and channel values in their range, T lies in 0 to 53804 and umag and dmag in 0 to 46339. -/
def Obligations.ThresholdRestrains : Prop :=
  ∀ (w : Vector Word 12) (hold : Bool) (e : Epoch) (i : PhaseInputs) (st : PhaseState),
    let r := evalPhase w hold e i st
    let formed := i.downstream = [] ∨ ∀ d ∈ i.downstream, d ≠ none
    (i.upstream = none → r.values.threshold = none ∧ r.values.umag = none ∧ r.values.dmag = none) ∧
    ∀ u, i.upstream = some u →
      r.values.umag = some (mag u) ∧
      (i.downstream = [] → r.values.dmag = some (mag u)) ∧
      (∀ downs, i.downstream = downs.map some → downs ≠ [] → r.values.dmag = some (mag (difference u downs))) ∧
      (¬formed → r.values.dmag = none) ∧
      (¬formed → r.values.threshold = none) ∧
      (formed → r.values.threshold = some (Prof.pickup w + i.allowance + Prof.slope w * mag u / 64)) ∧
      (-32767 ≤ u.re → u.re ≤ 32767 → -32767 ≤ u.im → u.im ≤ 32767 →
        (∀ k, r.values.umag = some k → k ≤ 46339) ∧ (∀ k, r.values.dmag = some k → k ≤ 46339) ∧
        (validateProfile w = .good → i.allowance ≤ 4095 → ∀ k, r.values.threshold = some k → k ≤ 53804))

/-- R98, R106, R94: the accumulator rises by the excess, at most excess_cap, up to 65535, or leaks down to 0, in the full
case outside HOLDOFF, and is held in every other case; it stays within 65535. -/
def Obligations.AccumulatorMoves : Prop :=
  ∀ (w : Vector Word 12) (hold : Bool) (e : Epoch) (i : PhaseInputs) (st : PhaseState),
    let r := evalPhase w hold e i st
    (∀ u downs, i.upstream = some u → i.downstream = downs.map some → downs ≠ [] → hold = false →
      let dmag := mag (difference u downs)
      let t := Prof.pickup w + i.allowance + Prof.slope w * mag u / 64
      (t < dmag → r.state.acc = min 65535 (st.acc + min (dmag - t) (Prof.excessCap w))) ∧
      (dmag ≤ t → r.state.acc = st.acc - Prof.leak w)) ∧
    (hold = true ∨ i.upstream = none ∨ i.downstream = [] ∨ none ∈ i.downstream → r.state.acc = st.acc) ∧
    (st.acc ≤ 65535 → r.state.acc ≤ 65535)

/-- R104: outside HOLDOFF the open count rises by 1 up to 255 where the open condition holds and becomes 0 where it does
not; it is held in the unmeasured case and at an INCOMPLETE evaluation, and stays as it is, 0, in HOLDOFF. R105, R94:
OPEN is confirmed outside HOLDOFF for a measured phase exactly when its count has reached open_persist. -/
def Obligations.OpenCountMoves : Prop :=
  ∀ (w : Vector Word 12) (e : Epoch) (i : PhaseInputs) (st : PhaseState),
    (∀ u, i.upstream = some u →
      let holds := mag u < Prof.openFloor w ∧ (∃ x, i.others = some x ∧ Prof.loadFloor w ≤ x) ∧
        (∀ v, i.vFar = some v → mag v < Prof.vCollapse w) ∧ ∀ v, i.vUp = some v → Prof.vHealthy w ≤ mag v
      (holds → (evalPhase w false e i st).state.openCount = min 255 (st.openCount + 1)) ∧
      (¬holds → (evalPhase w false e i st).state.openCount = 0)) ∧
    (i.upstream = none → (evalPhase w false e i st).state.openCount = st.openCount) ∧
    (st.openCount = 0 → (evalPhase w true e i st).state.openCount = 0) ∧
    (∀ len, (st.afterIncomplete len).openCount = st.openCount) ∧
    (st.openCount ≤ 255 → (evalPhase w false e i st).state.openCount ≤ 255) ∧
    ∀ hold, (evalPhase w hold e i st).opened = true ↔
      hold = false ∧ i.upstream ≠ none ∧ Prof.openPersist w ≤ (evalPhase w hold e i st).state.openCount

/-- R99, R100, R101, R102: in the full case the outcome is judged against the previous difference, entries for the same
or a later epoch go, the window keeps its newest window_len outcomes, and DOWNED is confirmed outside HOLDOFF exactly
when the accumulator has reached trip_level and the IRREGULAR outcomes irr_required. An entry exactly 32768 epochs away
goes too: the spec leaves that case open, and log entry 31 (DESIGN CHOICE) takes it as later. R94, R101: in the other
cases the window is trimmed and no more, DOWNED is not confirmed, and the previous difference is kept at a feeder end and
marked absent where no difference is formed or the phase is unmeasured. R107: the accumulator and open count of the
record are those after the evaluation. -/
def Obligations.OutcomeWindowDecides : Prop :=
  ∀ (w : Vector Word 12) (hold : Bool) (e : Epoch) (i : PhaseInputs) (st : PhaseState),
    let r := evalPhase w hold e i st
    let trimmed := st.window.drop (st.window.length - Prof.windowLen w)
    let undecided (prev : Option Nat) : Prop :=
      r.state.window = trimmed ∧ r.state.prev = prev ∧ r.downed = false
    (r.values.acc = r.state.acc ∧ r.values.openCount = r.state.openCount) ∧
    (i.upstream = none → undecided none) ∧
    ∀ u : Phasor, i.upstream = some u →
      (i.downstream = [] → undecided st.prev) ∧
      (none ∈ i.downstream → undecided none) ∧
      ∀ downs : List Phasor, i.downstream = downs.map some → downs ≠ [] →
        let dmag := mag (difference u downs)
        let judged : Bool := match st.prev with
          | none => false
          | some q => decide (Prof.burst w ≤ max dmag q - min dmag q)
        let kept := trimmed.filter (fun x => decide (0 < serialDiff x.epoch e)) ++ [{ epoch := e, irregular := judged }]
        r.state.window = kept.drop (kept.length - Prof.windowLen w) ∧
        r.state.window.length ≤ Prof.windowLen w ∧
        r.state.prev = some dmag ∧
        (r.downed = true ↔ hold = false ∧ Prof.tripLevel w ≤ r.state.acc ∧
          Prof.irrRequired w ≤ (r.state.window.filter (fun x => x.irregular)).length)

/-! ## Sections -/

/-- R76, R33, R145: the events HOLDOFF_DONE, STALE_LIMIT and ACTION_RETRY, each where its condition holds (log entry
11). -/
def Obligations.EventCommandsResult : Prop :=
  ∀ s : State, Running s →
    (∀ n : SectionNo, s.sections[n].mode = .holdoff → s.sections[n].holdoff = 0 → exec (.holdoffDone n) s = .next
      (queueReport (.sec n) (.sectionState .holdoff .watch .holdoffDone s.sections[n].next)
        { s with sections := s.sections.set n { s.sections[n] with mode := .watch } })) ∧
    (∀ m : SlotNo, s.clock.state ≠ .unset → s.slots[m].entry = .valid → s.slots[m].stream = .locked →
      staleLimit s.slots[m].words ≤ s.slots[m].staleCount → exec (.staleLimit m) s = .next
        (queueReport (.slot m) (.streamState (streamId s.slots[m].words) .locked (.inState .stale) .staleLimit none)
          { s with slots := s.slots.set m { s.slots[m] with stream := .stale } })) ∧
    ∀ (n : SectionNo) (first last : Epoch), s.clock.state ≠ .unset → s.actions[n].state = .sent →
      s.actions[n].firstSent = some first → s.actions[n].lastSent = some last →
      serialDiff first s.clock.c < (Prof.confirmTimeout (activeWords n s) : Int) →
      (Prof.retryEpochs (activeWords n s) : Int) ≤ serialDiff last s.clock.c →
      s.actions[n].attempts < Prof.attempts (activeWords n s) →
      exec (.actionRetry n) s = .next { s with actions := s.actions.set n { s.actions[n] with state := .pending } }

/-- R86, R76, R77, R88, R101: an INCOMPLETE evaluation raises the consecutive-incomplete count, holds accumulators and
open counts, marks the previous differences absent, trims the windows, hands its record to the capture unit (R163), adds
it to the history ring and advances the next epoch; in WATCH the section goes BLIND when the count has reached
blind_after, and SIGHT_LOSS is set (R124), in HOLDOFF the hold-off count falls and at 0 the section goes to WATCH, each
with its SECTION_STATE (R89). Nothing else changes. The forced evaluation at the closure of an epoch is INCOMPLETE where
the next epoch, at or before it, is not complete, and a complete evaluation where it is. 5.5: the states in which a section
evaluates are HOLDOFF, WATCH and BLIND. -/
def Obligations.IncompleteEvaluationResult : Prop :=
  (∀ m : SectionMode, m.evaluates = true ↔ m = .holdoff ∨ m = .watch ∨ m = .blind) ∧
  (∀ (n : SectionNo) (e : Epoch) (s : State),
    let x := s.sections[n]
    let due := x.mode.evaluates = true ∧ 0 ≤ serialDiff x.next e
    (¬due → doWork s (.force e n) = s) ∧
    (due → epochComplete n x.next s = true → doWork s (.force e n) = evaluateComplete n s) ∧
    (due → epochComplete n x.next s = false → doWork s (.force e n) = evaluateIncomplete n s)) ∧
  ∀ (n : SectionNo) (s : State), s.sections[n].mode.evaluates = true →
    let x := s.sections[n]
    let t := evaluateIncomplete n s
    let w := activeWords n s
    let count := min 255 (x.incomplete + 1)
    let record : EvalRecord := { epoch := x.next, phases := none }
    let trimmed (p : PhaseState) : PhaseState :=
      { p with prev := none, window := p.window.drop (p.window.length - Prof.windowLen w) }
    let left (mode : SectionMode) (holdoff : Nat) : State :=
      { captureAdd n record s with
        sections := s.sections.set n
          { x with mode := mode, next := x.next + 1, incomplete := count, holdoff := holdoff
                   history := pushHistory record x.history
                   phases := ⟨trimmed x.phases.a, trimmed x.phases.b, trimmed x.phases.c⟩ } }
    let moved (entered : SectionMode) (cause : SectionCause) (s : State) : State :=
      queueReport (.sec n) (.sectionState x.mode entered cause (x.next + 1)) s
    (x.mode = .holdoff → 2 ≤ x.holdoff → t = left .holdoff (x.holdoff - 1)) ∧
    (x.mode = .holdoff → x.holdoff ≤ 1 → t = moved .watch .holdoffDone (left .watch 0)) ∧
    (x.mode = .watch → count < Prof.blindAfter w → t = left .watch x.holdoff) ∧
    (x.mode = .watch → Prof.blindAfter w ≤ count →
      t = raiseKind n .sightLoss noPhases (activeProfile n s) (moved .blind .sightLost (left .blind x.holdoff)) ∧
      (x.entry = .valid → t.conds[n].sightLoss ≠ none)) ∧
    (x.mode = .blind → t = left .blind x.holdoff)

/-- R85, R71, R87, R93, R94, R76, R78, R84, R88, R89: on a store notice a section that evaluates makes a complete evaluation
of its next epoch when that epoch is complete, and goes on, evaluation by evaluation, until it is not; no run is longer
than 16. The evaluation takes a BLIND section to WATCH first, SIGHT_LOSS cleared and a HELD action of that cause dropped
(R141), sets the count to 0, runs the arithmetic on each phase under the active profile with the inputs that the members'
records give, hands the record and the pickup to the capture unit, adds the record to the history ring, hands the DOWNED
phases and after them the OPEN phases to the condition unit, and advances the next epoch; in HOLDOFF the hold-off count
falls, at 0 to WATCH, and nothing is confirmed. Nothing else changes. R93: the active profile is the one that the normal
profile field of the section entry names while the level is NORMAL, and the one that its elevated profile field names
while it is ELEVATED. R51: a ring gives the record that it holds at position E mod 16 for epoch E, and no other. -/
def Obligations.CompleteEvaluationResult : Prop :=
  (∀ (n : SectionNo) (p : ProfileNo) (s : State),
    let w := s.sections[n].words
    ((s.hazard = .normal ∧ (w[3].extractLsb' 0 8).toNat = p.val) ∨
      (s.hazard = .elevated ∧ (w[3].extractLsb' 8 8).toNat = p.val)) →
    activeProfile n s = p ∧ activeWords n s = s.profiles[p].words) ∧
  (∀ (ring : Vector (Option SlotRecord) 16) (e : Epoch) (r : SlotRecord),
    ringRecord ring e = some r ↔ r.epoch = e ∧ ∃ p : Fin 16, p.val = e.toNat % 16 ∧ ring[p] = some r) ∧
  (∀ (n : SectionNo) (s : State),
    let complete (s : State) : Prop := ∀ m ∈ members s.sections[n].words,
      ∃ r, ringRecord s.slots[m].ring s.sections[n].next = some r ∧ r.faulty = false ∧ ∀ q, r.get q ≠ .absent
    let goesOn (s : State) : Prop := s.sections[n].mode.evaluates = true ∧ complete s
    (goesOn s → doWork s (.evaluate n) = evaluateComplete n s) ∧
    (¬goesOn s → doWork s (.evaluate n) = s) ∧
    ¬goesOn ((List.replicate 16 (Work.evaluate n)).foldl doWork s)) ∧
  ∀ (n : SectionNo) (s : State), s.sections[n].mode.evaluates = true →
    let x := s.sections[n]
    let t := evaluateComplete n s
    let p := activeProfile n s
    let hold := decide (x.mode = .holdoff)
    let read (m : SlotNo) (q : Quantity) : Option Phasor :=
      (ringRecord s.slots[m].ring x.next).bind (fun r => match r.get q with
        | .phasor v => some v
        | .unmapped | .absent => none)
    let inputs (f : Phase) : PhaseInputs :=
      { upstream := read (upstreamSlot x.words) (currentOf f)
        downstream := (downstreamSlots x.words).map (fun m => read m (currentOf f))
        others := ((allPhases.filter (fun g => g ≠ f)).filterMap (fun g =>
          (read (upstreamSlot x.words) (currentOf g)).map mag)).max?
        vFar := (voltageSlot x.words).bind (fun m => read m (voltageOf f))
        vUp := read (upstreamSlot x.words) (voltageOf f)
        allowance := loadAllowance x.words f }
    let result (f : Phase) : PhaseResult :=
      evalPhase (activeWords n s) hold x.next (inputs f) (x.phases.get f)
    let results : PerPhase PhaseResult := ⟨result .a, result .b, result .c⟩
    let record : EvalRecord :=
      { epoch := x.next, phases := some ⟨(result .a).values, (result .b).values, (result .c).values⟩ }
    let captured (v : State) : State :=
      match pickupOf hold x.phases results with
      | none => captureAdd n record v
      | some trigger => capturePickup n trigger p x.history record (captureAdd n record v)
    let done (mode : SectionMode) (next : Epoch) (holdoff : Nat) : SectionState :=
      { x with mode := mode, next := next, incomplete := 0, holdoff := holdoff, history := pushHistory record x.history
               phases := ⟨(result .a).state, (result .b).state, (result .c).state⟩ }
    let ended (mode : SectionMode) (holdoff : Nat) (v : State) : State :=
      { v with sections := s.sections.set n (done mode (x.next + 1) holdoff) }
    let watching : State :=
      queueReport (.sec n) (.sectionState .blind .watch .sightRegained x.next)
        { s with sections := s.sections.set n { x with mode := .watch } }
    let cleared : State := clearingReported n s.conds[n] .sightRegained
      { watching with conds := s.conds.set n { s.conds[n] with sightLoss := none } } .sightLoss
    let regained : State :=
      if x.mode = .watch then s
      else if heldByLive s.conds[n] s.actions[n] .sightLoss = true then
        { cancelReported n s.actions[n] .liveCleared cleared with actions := retiredRecords n s.actions }
      else cleared
    (x.mode = .holdoff → 2 ≤ x.holdoff → t = ended .holdoff (x.holdoff - 1) (captured s)) ∧
    (x.mode = .holdoff → x.holdoff ≤ 1 →
      t = queueReport (.sec n) (.sectionState .holdoff .watch .holdoffDone (x.next + 1)) (ended .watch 0 (captured s))) ∧
    (x.mode ≠ .holdoff →
      t = ended .watch x.holdoff
        (confirmKind n .opened ⟨(result .a).opened, (result .b).opened, (result .c).opened⟩ p
          (confirmKind n .downed ⟨(result .a).downed, (result .b).downed, (result .c).downed⟩ p
            { captured regained with sections := s.sections.set n (done .watch x.next x.holdoff) })))

/-- R74, R75, R158: the arming test of a tick arms a section in ARMING when every member is VALID and LOCKED and the
switch slot, if any, is VALID, LOCKED and CLOSED, and changes nothing otherwise. A section that arms enters HOLDOFF, its
CONFIRMED or FAILED action retired, and with holdoff_epochs 0 goes on to WATCH, each with its SECTION_STATE. R125, R130,
R141: the MEMBER_RESYNC test raises the kind (R127 by the active profile) while a member is ACQUIRING that has been locked
before, and clears it with cause SELF when none is, a HELD action of that cause dropped; only a section in HOLDOFF, WATCH
or BLIND is tested. -/
def Obligations.ArmingTestResult : Prop :=
  (∀ (n : SectionNo) (s : State),
    let x := s.sections[n]
    let ready (m : SlotNo) : Prop := s.slots[m].entry = .valid ∧ s.slots[m].stream = .locked
    let arms := x.mode = .arming ∧ (∀ m ∈ members x.words, ready m) ∧
      ∀ m, switchSlot x.words = some m → ready m ∧ s.slots[m].position = .closed
    let hold := Prof.holdoffEpochs (activeWords n s)
    let t := doWork s (.arm n)
    (¬arms → t = s) ∧
    (arms →
      let armed (mode : SectionMode) : SectionState :=
        { x with mode := mode, next := s.clock.c, history := [], incomplete := 0, holdoff := hold
                 phases := ⟨{ x.phases.a with prev := none }, { x.phases.b with prev := none },
                            { x.phases.c with prev := none }⟩ }
      let ended := s.actions[n].state = .confirmed ∨ s.actions[n].state = .failed
      let entered : State := queueReport (.sec n) (.sectionState .arming .holdoff .armed s.clock.c)
        { s with sections := s.sections.set n (armed .holdoff)
                 actions := if ended then retiredRecords n s.actions else s.actions }
      (hold ≠ 0 → t = entered) ∧
      (hold = 0 → t = queueReport (.sec n) (.sectionState .holdoff .watch .holdoffDone s.clock.c)
        { entered with sections := s.sections.set n (armed .watch) }))) ∧
  ∀ (n : SectionNo) (s : State),
    let t := doWork s (.resyncTest n)
    let tested := s.sections[n].mode.evaluates = true
    let resyncing := ∃ m ∈ members s.sections[n].words,
      s.slots[m].entry = .valid ∧ s.slots[m].stream = .acquiring ∧ s.slots[m].everLocked = true
    (¬tested → t = s) ∧
    (tested → resyncing → t = raiseKind n .memberResync noPhases (activeProfile n s) s) ∧
    (tested → ¬resyncing →
      (s.conds[n].memberResync = none → t = s) ∧
      ∀ r, s.conds[n].memberResync = some r →
        let cleared : State := { s with conds := s.conds.set n { s.conds[n] with memberResync := none } }
        let told : State :=
          if r.response = .record then cleared
          else queueReport (.sec n) (.conditionCleared .memberResync noPhases .self) cleared
        let dropped := s.actions[n].state = .held ∧ s.actions[n].cause = .memberResync
        (¬dropped → t = told) ∧
        (dropped → t =
          { queueReport (.sec n) (.actionCancelled .memberResync .liveCleared s.actions[n].attempts) told with
            actions := retiredRecords n s.actions }))

/-- R79, R83, R164: an OPEN report takes a section in HOLDOFF, WATCH or BLIND to LATCHED when its own action is PENDING,
SENT, CONFIRMED or FAILED or a CONFIRMED record covers it, and to DEENERGIZED otherwise, by the leaving rule. R80: a latch
notice takes a section in these states, by the leaving rule, or in DEENERGIZED to LATCHED and no other. R81: a CLOSED
report takes a DEENERGIZED section to ARMING with the clearing at every entry to it, and no other. R147, R149: an OPEN
report at the action unit makes every PENDING or SENT record aimed at the slot CONFIRMED, changes no other record, and
then, in ascending section number, queues ACTION_CONFIRMED for each and hands latch notices to its section and its
origins, each record's notices after its own ACTION_CONFIRMED and in any interleaving with the work on the records after
it (R171). The premise on the records is an invariant (StepKeepsActions). -/
def Obligations.SwitchOpenResult : Prop :=
  (∀ (n : SectionNo) (s : State),
    let t := doWork s (.switchOpen n)
    let covered := (s.actions[n].state ≠ .noAction ∧ s.actions[n].state ≠ .held) ∨
      ∃ b : SectionNo, s.actions[b].state = .confirmed ∧ n ∈ s.actions[b].origins
    (s.sections[n].mode.evaluates = false → t = s) ∧
    (s.sections[n].mode.evaluates = true →
      (covered → LeavesService n .latched .switchOpen s t) ∧
      (¬covered → LeavesService n .deenergized .switchOpen s t))) ∧
  (∀ (n : SectionNo) (s : State),
    let x := s.sections[n]
    let moved (mode : SectionMode) : State := { s with sections := s.sections.set n { x with mode := mode } }
    (x.mode.evaluates = true → LeavesService n .latched .latch s (latchNotice n s)) ∧
    (x.mode = .deenergized → latchNotice n s =
      queueReport (.sec n) (.sectionState .deenergized .latched .latch x.next) (moved .latched)) ∧
    (x.mode.evaluates = false → x.mode ≠ .deenergized → latchNotice n s = s) ∧
    (x.mode = .deenergized → doWork s (.switchClosed n) =
      queueReport (.sec n) (.sectionState .deenergized .arming .switchClosed x.next)
        { s with sections := s.sections.set n
                   { x with mode := .arming, incomplete := 0, holdoff := 0
                            phases := ⟨⟨0, 0, [], none⟩, ⟨0, 0, [], none⟩, ⟨0, 0, [], none⟩⟩ } }) ∧
    (x.mode ≠ .deenergized → doWork s (.switchClosed n) = s)) ∧
  (∀ (n : SectionNo) (v : State),
    let a := v.actions[n]
    doWork v (.latch n) = latchNotice n v ∧
    doWork v (.confirmed n) =
      queueReport (.sec n) (.actionConfirmed a.cause a.target a.attempts a.origins.length) v) ∧
  ∀ (m : SlotNo) (s : State) (works : List Work), ActionsHold s →
    let aimed (n : SectionNo) : Prop :=
      (s.actions[n].state = .pending ∨ s.actions[n].state = .sent) ∧ s.actions[n].target = m
    let noticed (j : SectionNo) : Prop := ∃ n, aimed n ∧ (j = n ∨ j ∈ s.actions[n].origins)
    let evaluating (j : SectionNo) : Prop := s.sections[j].mode.evaluates = true
    let u := doWork s (.confirm m)
    let t := works.foldl doWork u
    u = { s with actions := u.actions } ∧
    (∀ n, (aimed n → u.actions[n] = { s.actions[n] with state := .confirmed }) ∧
      (¬aimed n → u.actions[n] = s.actions[n])) ∧
    (ConfirmsThen (fun n => s.actions[n].origins)
      (allSections.filter (fun n =>
        (s.actions[n].state = .pending ∨ s.actions[n].state = .sent) ∧ s.actions[n].target = m)) works →
    t = { s with sections := t.sections, conds := t.conds, actions := t.actions, captures := t.captures
                 report := t.report } ∧
    ((∀ n, ¬aimed n) → t = s) ∧
    (∀ n, (aimed n → t.actions[n] = { s.actions[n] with state := .confirmed }) ∧
      (¬aimed n → t.actions[n] = s.actions[n])) ∧
    (∀ j : SectionNo,
      (noticed j → (evaluating j ∨ s.sections[j].mode = .deenergized) →
        t.sections[j] = { s.sections[j] with mode := .latched }) ∧
      (noticed j → evaluating j → t.conds[j] = { s.conds[j] with sightLoss := none, memberResync := none } ∧
        ∀ i : CaptureNo, fillingFor j s = some i →
          t.captures[i] = { s.captures[i] with state := .frozen, short := true }) ∧
      (¬noticed j ∨ (¬evaluating j ∧ s.sections[j].mode ≠ .deenergized) → t.sections[j] = s.sections[j]) ∧
      (¬noticed j ∨ ¬evaluating j → t.conds[j] = s.conds[j])) ∧
    ∀ n, aimed n → (∀ j, aimed j → j = n) →
      let a := s.actions[n]
      t = (n :: a.origins).foldl (fun u j => latchNotice j u)
        (queueReport (.sec n) (.actionConfirmed a.cause a.target a.attempts a.origins.length)
          { s with actions := s.actions.set n { a with state := .confirmed } }))

/-- R82, R81, R132, R158: RESTORE of a LATCHED section puts it into ARMING with its detection state cleared, its latched
conditions cleared and its action retired; for any other section or number it is BAD_VALUE and changes nothing. The
records are the CONDITION_CLEARED of each kind cleared (R129), the ACTION_CANCELLED of an action that goes with one of
them (R141) and SECTION_STATE (R89), in the order of log entry 18 (DEDUCED). -/
def Obligations.RestoreResult : Prop :=
  ∀ (sec : Byte) (s : State), Serving s →
    (32 ≤ sec.toNat → exec (.restore sec) s = .next (s.answered 5 .badValue [])) ∧
    ∀ n : SectionNo, n.val = sec.toNat →
      (s.sections[n].mode ≠ .latched → exec (.restore sec) s = .next (s.answered 5 .badValue [])) ∧
      (s.sections[n].mode = .latched → ∃ t, exec (.restore sec) s = .next t ∧
        t = State.answered
          { s with
            sections := s.sections.set n
              { s.sections[n] with mode := .arming, phases := startPhases, incomplete := 0, holdoff := 0 }
            conds := t.conds, actions := t.actions, report := t.report } 5 .ok [] ∧
        (∀ k ∈ [Kind.opened, .downed, .actionFailed, .backupCalled], t.conds[n].get k = none) ∧
        t.conds[n].openPhases = (if s.conds[n].opened = none then s.conds[n].openPhases else noPhases) ∧
        t.conds[n].downedPhases = (if s.conds[n].downed = none then s.conds[n].downedPhases else noPhases) ∧
        t.conds[n].sightLoss = s.conds[n].sightLoss ∧ t.conds[n].memberResync = s.conds[n].memberResync ∧
        (∀ j, j ≠ n → t.conds[j] = s.conds[j]) ∧
        t.actions[n] = ActionRecord.none ∧
        (∀ b : SectionNo, b ≠ n →
          t.actions[b] = { s.actions[b] with origins := s.actions[b].origins.filter (fun o => decide (o ≠ n)) }) ∧
        let a := s.actions[n]
        let c := s.conds[n]
        let dropped := (a.state = .held ∨ (a.state = .pending ∧ a.attempts = 0)) ∧
          ((a.cause = .opened ∧ c.opened ≠ none) ∨ (a.cause = .downed ∧ c.downed ≠ none))
        let cleared : State :=
          [Kind.opened, .downed, .actionFailed, .backupCalled].foldl (clearingReported n c .restore) s
        t.report = (queueReport (.sec n) (.sectionState .latched .arming .restore s.sections[n].next)
          (if dropped then cancelReported n a .clearRequest cleared else cleared)).report)

/-- R92, R98, R100, R104, R106: every step keeps the accumulators, open counts, previous differences (0 to 46339) and
counts in their ranges, every outcome window at most 32 long in increasing epoch order, and accumulators and open counts
at 0 in OFF, ARMING and HOLDOFF. With them it keeps what bounds a window: a VALID section names two VALID profiles, and a
VALID profile has passed its checks (R70, R117, R118). -/
def Obligations.StepKeepsDetection : Prop :=
  ∀ s t : State, DetectionHolds s → step s = .next t → DetectionHolds t

/-- Every step keeps: OFF exactly while the entry is not VALID, SIGHT_LOSS set exactly while BLIND, MEMBER_RESYNC only
while the section evaluates, and the condition set of a section not VALID empty. -/
def Obligations.StepKeepsSections : Prop :=
  ∀ s t : State, SectionsHold s → step s = .next t → SectionsHold t

/-! ## Conditions and hazard level -/

/-- R119: SET_HAZARD takes a level that differs and queues HAZARD, changes nothing for the level held, and answers
BAD_VALUE to any other value. R111: before a piece of work that reads the level (an evaluation, a forced evaluation, an
arming test, a MEMBER_RESYNC test, the action unit's tick work) and before no other piece, a choice of order (log entry 1)
says whether a SET_HAZARD that the frame under execution has come to is taken there, as MGMT_FRAME_TAKEN would execute it,
or not. None is taken where no frame is under execution, or one that has not come to a SET_HAZARD. -/
def Obligations.SetHazardResult : Prop :=
  (∀ (level : Byte) (s : State), Serving s →
    (2 ≤ level.toNat → exec (.setHazard level) s = .next (s.answered 3 .badValue [])) ∧
    ∀ h : Hazard, h.code = level.toNat →
      (h = s.hazard → exec (.setHazard level) s = .next (s.answered 3 .ok [])) ∧
      (h ≠ s.hazard → exec (.setHazard level) s = .next
        ((queueReport .device (.hazardChange s.hazard h) { s with hazard := h }).answered 3 .ok []))) ∧
  (∀ s : State, hazardWaiting s = none → hazardMoment s = s) ∧
  (∀ s : State, hazardWaiting s = none ↔ ∀ (e : MgmtExec) (level : Byte) (todo : List RawRequest),
    s.executing = some e → e.mode ≠ .starting → e.writing = none →
    e.todo ≠ { code := 3, params := [level] } :: todo) ∧
  (∀ (v : State) (w : Work), doWorkAmong v w = doWork (match w with
    | .evaluate _ => hazardMoment v
    | .force _ _ => hazardMoment v
    | .arm _ => hazardMoment v
    | .resyncTest _ => hazardMoment v
    | .actionTick => hazardMoment v
    | _ => v) w) ∧
  ∀ (e : MgmtExec) (level : Byte) (todo : List RawRequest) (code : Nat) (rest : List Nat) (s : State), Running s →
    s.executing = some e → e.mode ≠ .starting → e.writing = none → e.todo = { code := 3, params := [level] } :: todo →
    s.order = code :: rest →
    (code % 2 = 0 → hazardMoment s = { s with order := rest }) ∧
    (code % 2 = 1 → exec (.mgmtFrameTaken (some 1) s.pins.tag) { s with order := rest } = .next (hazardMoment s))

/-- R131, R112, R113, R141: CLEAR_CONDITIONS clears the latched kinds named and leaves the live ones and the others,
their phase sets with them (R129), clears accumulators and windows when DOWNED is named and open counts when OPEN is, and
drops the action of a named cause that is HELD or PENDING without attempts. CONDITION_CLEARED is queued for each kind
cleared and ACTION_CANCELLED after them (log entry 18, DEDUCED, for the order). -/
def Obligations.ClearConditionsResult : Prop :=
  ∀ (sec kinds : Byte) (s : State), Serving s →
    (32 ≤ sec.toNat ∨ 64 ≤ kinds.toNat → exec (.clearConditions sec kinds) s = .next (s.answered 6 .badValue [])) ∧
    ∀ n : SectionNo, n.val = sec.toNat → kinds.toNat < 64 →
      ∃ t, exec (.clearConditions sec kinds) s = .next t ∧
        t = State.answered
          { s with
            sections := s.sections.set n { s.sections[n] with phases := t.sections[n].phases }
            conds := t.conds, actions := t.actions, report := t.report } 6 .ok [] ∧
        (∀ k ∈ [Kind.opened, .downed, .actionFailed, .backupCalled],
          t.conds[n].get k = if kinds.getLsbD k.bit then none else s.conds[n].get k) ∧
        (∀ k ∈ [Kind.sightLoss, .memberResync], t.conds[n].get k = s.conds[n].get k) ∧
        (t.conds[n].openPhases =
          if kinds.getLsbD 0 = true ∧ s.conds[n].opened ≠ none then noPhases else s.conds[n].openPhases) ∧
        (t.conds[n].downedPhases =
          if kinds.getLsbD 1 = true ∧ s.conds[n].downed ≠ none then noPhases else s.conds[n].downedPhases) ∧
        (∀ j, j ≠ n → t.conds[j] = s.conds[j]) ∧
        (∀ p, t.sections[n].phases.get p =
          { s.sections[n].phases.get p with
            acc := if kinds.getLsbD 1 then 0 else (s.sections[n].phases.get p).acc
            window := if kinds.getLsbD 1 then [] else (s.sections[n].phases.get p).window
            openCount := if kinds.getLsbD 0 then 0 else (s.sections[n].phases.get p).openCount }) ∧
        let a := s.actions[n]
        let dropped := (a.state = .held ∨ (a.state = .pending ∧ a.attempts = 0)) ∧
          ((a.cause = .opened ∧ kinds.getLsbD 0 = true) ∨ (a.cause = .downed ∧ kinds.getLsbD 1 = true))
        (dropped → t.actions[n] = ActionRecord.none ∧ ∀ b : SectionNo, b ≠ n →
          t.actions[b] = { s.actions[b] with origins := s.actions[b].origins.filter (fun o => decide (o ≠ n)) }) ∧
        (¬dropped → t.actions = s.actions) ∧
        let cleared : State := ([Kind.opened, .downed, .actionFailed, .backupCalled].filter (fun k =>
          kinds.getLsbD k.bit)).foldl (clearingReported n s.conds[n] .clearRequest) s
        t.report = (if dropped then cancelReported n a .clearRequest cleared else cleared).report

/-- R122, R127, R128, R137: a kind that rises at a VALID section is given one response from the profile and the entry,
held with it; with ISOLATE, which OPEN, DOWNED, SIGHT_LOSS and MEMBER_RESYNC can have, an action with the kind as its
cause is created when the section's record is NONE, PENDING when the section qualifies and
HELD when not. CONDITION_SET RISEN is queued unless the response is RECORD, and ACTION_HELD with its reason after it where
the new record is HELD. The other kinds and phase sets, the other sections and their action records, and all the rest
stay as they are. R123, R129: confirmed phases make a clear kind rise, join the phase set of a set kind with an ADDED record when
one of them is new, and do nothing otherwise. That the ADDED record names the profile and the level of the rising is log
entry 5 (DEDUCED). -/
def Obligations.RisingKindResult : Prop :=
  KindsNamed ∧
  (∀ (n : SectionNo) (k : Kind) (phases : PhaseSet) (p : ProfileNo) (s : State),
    (s.sections[n].entry ≠ .valid ∨ s.conds[n].get k ≠ none → raiseKind n k phases p s = s) ∧
    (s.sections[n].entry = .valid → s.conds[n].get k = none →
      let t := raiseKind n k phases p s
      let isolate := k ≠ .actionFailed ∧ k ≠ .backupCalled ∧ s.profiles[p].words[7].getLsbD k.bit = true ∧
        switchSlot s.sections[n].words ≠ none
      let reported := s.profiles[p].words[8].getLsbD k.bit = true
      let asked (cause : Cause) : Prop := (k, cause) ∈
        [(Kind.opened, Cause.opened), (.downed, .downed), (.sightLoss, .sightLoss), (.memberResync, .memberResync)]
      (∀ r : Response,
        ((r = .isolate ∧ isolate) ∨ (r = .report ∧ ¬isolate ∧ reported) ∨ (r = .record ∧ ¬isolate ∧ ¬reported)) →
        t.conds[n].get k = some { response := r, profile := p, level := s.hazard }) ∧
      t.conds[n].openPhases = (if k = .opened then phases else s.conds[n].openPhases) ∧
      t.conds[n].downedPhases = (if k = .downed then phases else s.conds[n].downedPhases) ∧
      (∀ k', k' ≠ k → t.conds[n].get k' = s.conds[n].get k') ∧ (∀ j, j ≠ n → t.conds[j] = s.conds[j]) ∧
      (∀ target cause, isolate → s.actions[n].state = .noAction → switchSlot s.sections[n].words = some target →
        asked cause →
        t.actions[n] =
          { state := if s.mode = .active ∧ s.sections[n].words[3].getLsbD 16 = true then .pending else .held
            cause := cause, target := target, attempts := 0, firstSent := none, lastSent := none, origins := [] }) ∧
      (¬isolate ∨ s.actions[n].state ≠ .noAction → t.actions = s.actions) ∧
      (∀ j, j ≠ n → t.actions[j] = s.actions[j]) ∧
      t = { s with conds := t.conds, actions := t.actions, report := t.report } ∧
      let qualified := s.mode = .active ∧ s.sections[n].words[3].getLsbD 16 = true
      let risen (r : Response) : State :=
        queueReport (.sec n) (.conditionSet k phases { response := r, profile := p, level := s.hazard } false) s
      (¬isolate → ¬reported → t.report = s.report) ∧
      (¬isolate → reported → t.report = (risen .report).report) ∧
      (isolate → s.actions[n].state ≠ .noAction ∨ qualified → t.report = (risen .isolate).report) ∧
      ∀ target cause, isolate → s.actions[n].state = .noAction → ¬qualified →
        switchSlot s.sections[n].words = some target → asked cause →
        t.report = (queueReport (.sec n) (.actionHeld cause target
          (if s.sections[n].words[3].getLsbD 16 = true then .notActive else .permitOff)) (risen .isolate)).report)) ∧
  ∀ (n : SectionNo) (k : Kind) (phases : PhaseSet) (p : ProfileNo) (s : State), (k = .opened ∨ k = .downed) →
    let t := confirmKind n k phases p s
    let before := if k = .opened then s.conds[n].openPhases else s.conds[n].downedPhases
    let union : PhaseSet := ⟨before.a || phases.a, before.b || phases.b, before.c || phases.c⟩
    let joined : ConditionSet :=
      if k = .opened then { s.conds[n] with openPhases := union } else { s.conds[n] with downedPhases := union }
    (phases = ⟨false, false, false⟩ → t = s) ∧
    (phases ≠ ⟨false, false, false⟩ →
      (s.conds[n].get k = none → t = raiseKind n k phases p s) ∧
      ∀ r, s.conds[n].get k = some r →
        (union = before → t = s) ∧
        (union ≠ before → t = queueReport (.sec n) (.conditionSet k union r true)
          { s with conds := s.conds.set n joined }))

/-- R133: an alarm line is high exactly while a section of its set has OPEN, DOWNED or ACTION_FAILED set. -/
def Obligations.AlarmLinesFollowConditions : Prop :=
  ∀ s : State,
    let drives (n : SectionNo) : Prop :=
      s.conds[n].opened ≠ none ∨ s.conds[n].downed ≠ none ∨ s.conds[n].actionFailed ≠ none
    (alarmA s = true ↔ ∃ n : SectionNo, s.settings[2].getLsbD n.val = true ∧ drives n) ∧
    (alarmB s = true ↔ ∃ n : SectionNo, s.settings[3].getLsbD n.val = true ∧ drives n)

/-! ## Actions -/

/-- R140, R139: SET_PERMIT sets bit 16 of section word 3 in place at a VALID entry, releases the section's HELD record
on ON in ACTIVE, and answers BAD_VALUE otherwise. -/
def Obligations.SetPermitResult : Prop :=
  ∀ (sec value : Byte) (s : State), Serving s →
    (32 ≤ sec.toNat ∨ 2 ≤ value.toNat → exec (.setPermit sec value) s = .next (s.answered 4 .badValue [])) ∧
    ∀ n : SectionNo, n.val = sec.toNat → value.toNat < 2 →
      (s.sections[n].entry ≠ .valid → exec (.setPermit sec value) s = .next (s.answered 4 .badValue [])) ∧
      (s.sections[n].entry = .valid → ∃ t, exec (.setPermit sec value) s = .next t ∧
        t = State.answered
          { s with sections := t.sections
                   actions := s.actions.set n
                     (releasedRecord s.actions[n] (decide (value = 1) && decide (s.mode = .active))) } 4 .ok [] ∧
        t.sections = s.sections.set n { s.sections[n] with words := t.sections[n].words } ∧
        (∀ i : Fin 6, i ≠ 3 → t.sections[n].words[i] = s.sections[n].words[i]) ∧
        ∀ b : Nat, b < 32 → t.sections[n].words[3].getLsbD b =
          if b = 16 then decide (value = 1) else s.sections[n].words[3].getLsbD b)

/-- R156, R139: SUSPEND is refused ACTION_BUSY while any record is PENDING or SENT and makes the mode SUSPENDED
otherwise; RESUME makes it ACTIVE and releases every HELD record whose permit is ON. -/
def Obligations.SuspendResumeResult : Prop :=
  ∀ s : State, Serving s →
    let busy := ∃ n : SectionNo, s.actions[n].state = .pending ∨ s.actions[n].state = .sent
    (busy → exec .suspend s = .next (s.answered 9 .actionBusy [])) ∧
    (¬busy → exec .suspend s = .next (State.answered { s with mode := .suspended } 9 .ok [])) ∧
    ∃ t, exec .resume s = .next t ∧
      t = State.answered { s with mode := .active, actions := t.actions } 10 .ok [] ∧
      ∀ n : SectionNo, t.actions[n] = releasedRecord s.actions[n] (permitOn s.sections[n].words)

/-- R150 to R153: a SENT record whose confirm_timeout has run out becomes FAILED and ACTION_FAILED is set. The walk of the
backup chain then looks at up to three sections, passing over a VALID one with a switch whose record is FAILED: where a
hop finds no section, one not VALID, one without a switch, or the third is passed over, the walk ends exhausted with that
reason and its hops; where it finds a VALID section with a switch whose record is not FAILED, the escalation set joins
that record according to its state, at its end and in its order, and where the record is CONFIRMED a latch notice goes to
each section that joined (R152, R80; log entry 11 for the command between two ticks; log entry 18, DEDUCED, for the order
of the records, those of latch notices before ESCALATED among them). The premise on the records is an
invariant (StepKeepsActions). -/
def Obligations.ActionTimeoutEscalates : Prop :=
  ∀ (n : SectionNo) (first : Epoch) (s : State), Running s → ActionsHold s → s.clock.state ≠ .unset →
    s.actions[n].state = .sent → s.actions[n].firstSent = some first →
    (Prof.confirmTimeout (activeWords n s) : Int) ≤ serialDiff first s.clock.c →
    let a := s.actions[n]
    let group := n :: a.origins
    let failing : State := raiseKind n .actionFailed noPhases (activeProfile n s)
      (queueReport (.sec n) (.actionFailed a.cause a.target a.attempts a.firstSent a.origins.length)
        { s with actions := s.actions.set n { a with state := .failed } })
    let valid (b : SectionNo) := s.sections[b].entry = .valid
    let switched (b : SectionNo) := switchSlot s.sections[b].words ≠ none
    let failed (b : SectionNo) := b = n ∨ s.actions[b].state = .failed
    let next (b : SectionNo) := backupSection s.sections[b].words
    let passed (b : SectionNo) := valid b ∧ switched b ∧ failed b
    let reaches (hop : Nat) (c : Option SectionNo) : Prop :=
      (hop = 1 ∧ c = next n) ∨ (hop = 2 ∧ ∃ b, next n = some b ∧ passed b ∧ c = next b) ∨
      (hop = 3 ∧ ∃ b d, next n = some b ∧ passed b ∧ next b = some d ∧ passed d ∧ c = next d)
    ∃ t, exec (.actionTimeout n) s = .next t ∧
      t = { s with sections := t.sections, conds := t.conds, actions := t.actions, captures := t.captures
                   report := t.report } ∧
      t.actions[n] = { a with state := .failed } ∧
      (valid n → t.conds[n].actionFailed ≠ none) ∧
      ∀ (hop : Nat) (c : Option SectionNo), reaches hop c →
        let exhausted (reason : ExhaustedReason) : Prop :=
          t = queueReport (.sec n) (.escalationExhausted reason hop group) failing ∧ ∀ j, j ≠ n → t.actions[j] = s.actions[j]
        (c = none → exhausted .noBackup) ∧
        ∀ b : SectionNo, c = some b →
          (¬valid b → exhausted .backupOff) ∧
          (valid b → ¬switched b → exhausted .noSwitch) ∧
          (passed b → hop = 3 → exhausted .hopLimit) ∧
          (valid b → switched b → ¬failed b →
            let joining := group.filter (fun x => x ≠ b ∧ x ∉ s.actions[b].origins)
            let joinedRecord : ActionRecord := { s.actions[b] with origins := s.actions[b].origins ++ joining }
            let evaluating (j : SectionNo) : Prop := s.sections[j].mode.evaluates = true
            t.actions[b].origins = joinedRecord.origins ∧
            t.conds[b].backupCalled ≠ none ∧
            (s.actions[b].state ≠ .confirmed → t.sections = s.sections ∧ t.captures = s.captures) ∧
            (s.actions[b].state = .confirmed →
              joinBackup b group failing = joining.foldl (fun u j => latchNotice j u)
                { failing with actions := failing.actions.set b joinedRecord } ∧
              ∀ j : SectionNo,
                (j ∈ joining → (evaluating j ∨ s.sections[j].mode = .deenergized) →
                  t.sections[j] = { s.sections[j] with mode := .latched }) ∧
                (j ∈ joining → evaluating j → t.conds[j].sightLoss = none ∧ t.conds[j].memberResync = none ∧
                  ∀ i : CaptureNo, fillingFor j s = some i →
                    t.captures[i] = { s.captures[i] with state := .frozen, short := true }) ∧
                (j ∉ joining ∨ (¬evaluating j ∧ s.sections[j].mode ≠ .deenergized) →
                  t.sections[j] = s.sections[j])) ∧
            (s.actions[b].state = .noAction ∨ s.actions[b].state = .held →
              t.actions[b].cause = .escalation ∧ switchSlot s.sections[b].words = some t.actions[b].target ∧
              t.actions[b].attempts = 0 ∧ t.actions[b].firstSent = none ∧ t.actions[b].lastSent = none ∧
              t.actions[b].state = if s.mode = .active ∧ permitOn s.sections[b].words = true then .pending else .held) ∧
            (s.actions[b].state = .pending ∨ s.actions[b].state = .sent ∨ s.actions[b].state = .confirmed →
              t.actions[b] = { s.actions[b] with origins := t.actions[b].origins }) ∧
            (∀ j, j ≠ n → j ≠ b → t.actions[j] = s.actions[j]) ∧
            t = raiseKind b .backupCalled noPhases (activeProfile b s) (reportHeld b
              (queueReport (.sec b) (.escalated n b hop t.actions[b].state) (joinBackup b group failing))))

/-- R142, R143, R145, R154: the action unit's work at a tick makes the due failures in ascending section number, the due
retries among them in some order (log entry 1), and then takes the send slot: in ACTIVE with fewer than 4 frames waiting,
the PENDING record of highest rank and of the lowest number among equals, one ACTION frame handed over for it when it has
attempts left; otherwise it sends nothing. The ranks are 1 ESCALATION, 2 DOWNED, 3 OPEN, 4 SIGHT_LOSS, 5 MEMBER_RESYNC. -/
def Obligations.SendSlotTakesHighestRank : Prop :=
  (Cause.escalation.rank = 1 ∧ Cause.downed.rank = 2 ∧ Cause.opened.rank = 3 ∧ Cause.sightLoss.rank = 4 ∧
    Cause.memberResync.rank = 5) ∧
  (∀ s : State,
    let timedOut (n : SectionNo) := s.actions[n].state = .sent ∧ ∃ first, s.actions[n].firstSent = some first ∧
      (Prof.confirmTimeout (activeWords n s) : Int) ≤ serialDiff first s.clock.c
    let retried (n : SectionNo) := s.actions[n].state = .sent ∧ ¬timedOut n ∧
      s.actions[n].attempts < Prof.attempts (activeWords n s) ∧ ∃ last, s.actions[n].lastSent = some last ∧
      (Prof.retryEpochs (activeWords n s) : Int) ≤ serialDiff last s.clock.c
    ∃ (fails retries : List SectionNo) (works : List ActionWork) (u : State),
      fails.Pairwise (· < ·) ∧ (∀ n, n ∈ fails ↔ timedOut n) ∧ retries.Nodup ∧ (∀ n, n ∈ retries ↔ retried n) ∧
      works.Perm (fails.map ActionWork.fail ++ retries.map ActionWork.retry) ∧
      (fails.map ActionWork.fail).Sublist works ∧ u = { s with order := u.order, orderIndex := u.orderIndex } ∧
      doWork s .actionTick = sendSlot (works.foldl doActionWork u)) ∧
  (∀ (n : SectionNo) (s : State),
    doActionWork s (.retry n) = { s with actions := s.actions.set n { s.actions[n] with state := .pending } } ∧
    ∀ first, Running s → s.clock.state ≠ .unset → s.actions[n].state = .sent → s.actions[n].firstSent = some first →
      (Prof.confirmTimeout (activeWords n s) : Int) ≤ serialDiff first s.clock.c →
      exec (.actionTimeout n) s = .next (doActionWork s (.fail n))) ∧
  ∀ s : State,
    (s.mode ≠ .active ∨ 4 ≤ s.port.actionList.length ∨ (∀ n : SectionNo, s.actions[n].state ≠ .pending) →
      sendSlot s = s) ∧
    ∀ n : SectionNo, s.mode = .active → s.port.actionList.length < 4 → s.actions[n].state = .pending →
      (∀ j : SectionNo, s.actions[j].state = .pending → j ≠ n →
        s.actions[n].cause.rank < s.actions[j].cause.rank ∨
        (s.actions[n].cause.rank = s.actions[j].cause.rank ∧ n < j)) →
      let a := s.actions[n]
      let stream := streamId s.slots[a.target].words
      let first := some (a.firstSent.getD s.clock.c)
      let frame : ActionFrame :=
        { tag := s.pins.tag, stream := stream, epoch := s.clock.c, sec := n, cause := a.cause, attempt := a.attempts + 1 }
      let sent : ActionRecord :=
        { a with state := .sent, attempts := a.attempts + 1, firstSent := first, lastSent := some s.clock.c }
      (Prof.attempts (activeWords n s) ≤ a.attempts →
        sendSlot s = { s with actions := s.actions.set n { a with state := .sent } }) ∧
      (a.attempts < Prof.attempts (activeWords n s) →
        sendSlot s = queueReport (.sec n) (.actionSent a.cause a.target stream (a.attempts + 1) first)
          { s with port := { s.port with actionList := s.port.actionList ++ [frame] }
                   actions := s.actions.set n sent })

/-- R10, R142: no command hands over more than one ACTION frame, and none does while the device mode is not ACTIVE. A
frame handed over before is log entry 37 (DEDUCED). -/
def Obligations.ActionFramesOnlyInActive : Prop :=
  ∀ (c : Instr) (s t : State), exec c s = .next t →
    t.port.actionList.length ≤ s.port.actionList.length + 1 ∧
    (s.mode ≠ .active → t.port.actionList.length ≤ s.port.actionList.length)

/-- Every step keeps the origin lists distinct and without their own section, NONE records empty and HELD records
unsent. -/
def Obligations.StepKeepsActions : Prop :=
  ∀ s t : State, ActionsHold s → step s = .next t → ActionsHold t

/-! ## Captures -/

/-- R109: an evaluation not made in HOLDOFF is a pickup when a phase's accumulator rose from 0, of that trigger, or else
when a phase's open count did. R161, R162, R163: a pickup of a section without a FILLING buffer takes the FREE buffer of
the lowest number with a copy of the history ring and the record, or sets the section's capture-missed mark when none is
FREE; with a FILLING buffer it does neither. R163, R165: an evaluation record is added at the end of the section's FILLING
buffer, which freezes with its eighth post-trigger record and queues CAPTURE_FROZEN. R88: the history ring takes it at
its newest end and drops its oldest record when it holds 8. -/
def Obligations.PickupTakesLowestFree : Prop :=
  (∀ (before : PerPhase PhaseState) (after : PerPhase PhaseResult),
    let accRises := ∃ p, (before.get p).acc = 0 ∧ 0 < (after.get p).state.acc
    let openRises := ∃ p, (before.get p).openCount = 0 ∧ 0 < (after.get p).state.openCount
    pickupOf true before after = none ∧
    (accRises → pickupOf false before after = some .downedPickup) ∧
    (¬accRises → openRises → pickupOf false before after = some .openPickup) ∧
    (¬accRises → ¬openRises → pickupOf false before after = none)) ∧
  (∀ (r oldest : EvalRecord) (rest : List EvalRecord),
    (rest.length < 8 → pushHistory r rest = rest ++ [r]) ∧
    (rest.length = 7 → pushHistory r (oldest :: rest) = rest ++ [r]) ∧ (pushHistory r rest).length ≤ 8) ∧
  (∀ (n : SectionNo) (r : EvalRecord) (s : State),
    let t := captureAdd n r s
    let filling (i : CaptureNo) : Prop := s.captures[i].state = .filling ∧ s.captures[i].sec = n
    (∀ i, fillingFor n s = some i ↔ filling i ∧ ∀ j, filling j → i ≤ j) ∧
    ((∀ i, ¬filling i) → t = s) ∧
    ∀ i, filling i → (∀ j, filling j → i ≤ j) →
      let b := s.captures[i]
      let added (state : CaptureState) : State :=
        { s with captures := s.captures.set i
                   { b with state := state, short := if state = .frozen then false else b.short
                            records := b.records ++ [r], post := b.post + 1 } }
      (b.post < 7 → t = added .filling) ∧
      (7 ≤ b.post → t = queueReport (.sec n)
        (.captureFrozen i b.triggerEpoch b.trigger false b.pre (b.post + 1)) (added .frozen))) ∧
  ∀ (n : SectionNo) (k : Trigger) (p : ProfileNo) (history : List EvalRecord) (r : EvalRecord) (s : State),
    let t := capturePickup n k p history r s
    let started : Capture :=
      { state := .filling, sec := n, triggerEpoch := r.epoch, trigger := k, profile := p, short := false
        pre := history.length, post := 1, records := history ++ [r] }
    ((∃ i : CaptureNo, s.captures[i].state = .filling ∧ s.captures[i].sec = n) → t = s) ∧
    ((∀ i : CaptureNo, s.captures[i].state = .filling → s.captures[i].sec ≠ n) →
      ((∀ i : CaptureNo, s.captures[i].state ≠ .free) → t = { s with missed := s.missed.set n true }) ∧
      ∀ i : CaptureNo, s.captures[i].state = .free → (∀ j : CaptureNo, s.captures[j].state = .free → i ≤ j) →
        t = { s with captures := s.captures.set i started })

/-- R167: RELEASE_CAPTURE frees a FROZEN or FREE buffer and clears every capture-missed mark, is NOT_READY for a FILLING
one, and BAD_VALUE for an index above 3. -/
def Obligations.ReleaseCaptureResult : Prop :=
  ∀ (index : Byte) (s : State), Serving s →
    (4 ≤ index.toNat → exec (.releaseCapture index) s = .next (s.answered 8 .badValue [])) ∧
    ∀ i : CaptureNo, i.val = index.toNat →
      (s.captures[i].state = .filling → exec (.releaseCapture index) s = .next (s.answered 8 .notReady [])) ∧
      (s.captures[i].state ≠ .filling → exec (.releaseCapture index) s = .next
        (State.answered
          { s with captures := s.captures.set i Capture.cleared, missed := Vector.replicate 32 false } 8 .ok []))

/-- Every step keeps the capture buffers and history rings within their counts, and at most one buffer FILLING for a
section. -/
def Obligations.StepKeepsCaptures : Prop :=
  ∀ s t : State, CapturesHold s → step s = .next t → CapturesHold t

/-! ## Management -/

/-- R182, R166: READ is BAD_LENGTH for a count outside 1 to 64, BAD_ADDRESS when an address is unmapped, NOT_READY when
it touches a FILLING capture, and otherwise returns the words in ascending order; it changes nothing but its answer.
R181: the words of the four table regions are those stored. 12.7, R193, R196, R48, R67, R90, R135, R160, R178: the device,
stream and section status regions, the action records and the captures show the state in their fields, in the codes of
12.5, with 0 in the bits that no field occupies. An address is mapped when one of the nine regions holds it. -/
def Obligations.ReadResult : Prop :=
  (∀ s : State,
    (∀ k : Fin 4, readWord k.val s = some s.settings[k]) ∧
    (∀ (m : SlotNo) (k : Fin 6), readWord (0x0100 + 6 * m.val + k.val) s = some s.slots[m].words[k]) ∧
    (∀ (p : ProfileNo) (k : Fin 12), readWord (0x0300 + 12 * p.val + k.val) s = some s.profiles[p].words[k]) ∧
    (∀ (n : SectionNo) (k : Fin 6), readWord (0x0400 + 6 * n.val + k.val) s = some s.sections[n].words[k]) ∧
    CodesListed ∧
    let shown (a : Nat) (fields : List (Nat × Nat × Nat)) : Prop := ∃ w, readWord a s = some w ∧ Shows w fields
    let orZero (e : Option Epoch) : Nat := (e.getD 0).toNat
    (let k := s.clock
     shown 0x1000 [(0, 16, k.c.toNat), (16, 16, orZero k.announce)] ∧
     shown 0x1001 [(0, 16, orZero s.closureMark), (16, 2, k.state.code), (18, 1, k.announce.isSome.toNat),
       (19, 1, s.closureMark.isSome.toNat), (20, 3, k.progress.code), (24, 1, s.hazard.code), (25, 2, s.mode.code),
       (28, 2, s.imageStatus.code), (30, 1, (alarmA s).toNat), (31, 1, (alarmB s).toNat)] ∧
     shown 0x1002 ([(0, 7, s.report.queue.length), (8, 7, (originatorsInOrder.filter s.report.owed).length)] ++
       (List.finRange 8).map (fun p => (16 + 2 * p.val, 2, s.profiles[p].entry.code))) ∧
     shown 0x1003 ((List.finRange 8).map (fun p => (3 * p.val, 3, s.profiles[p].reason.code)))) ∧
    (∀ m : SlotNo,
      let x := s.slots[m]
      let base := 0x1100 + 2 * m.val
      shown base [(0, 2, x.entry.code), (2, 3, x.reason.code), (5, 3, x.stream.code), (8, 2, x.position.code),
        (10, 1, x.everLocked.toNat), (16, 6, x.sticky.code), (24, 5, (x.ring.toList.filter Option.isSome).length)] ∧
      shown (base + 1) [(0, 8, x.errors), (8, 8, x.staleCount)]) ∧
    (∀ n : SectionNo,
      let x := s.sections[n]
      let c := s.conds[n]
      let base := 0x1200 + 8 * n.val
      shown base [(0, 2, x.entry.code), (2, 3, x.reason.code), (8, 3, x.mode.code), (11, 1, s.missed[n].toNat),
        (16, 16, if x.mode = .off then 0 else x.next.toNat)] ∧
      shown (base + 1) [(0, 8, x.incomplete), (8, 8, x.holdoff), (16, 6, c.code), (24, 3, c.openPhases.code),
        (28, 3, c.downedPhases.code)] ∧
      shown (base + 2) [(0, 16, x.phases.a.acc), (16, 16, x.phases.b.acc)] ∧
      shown (base + 3) [(0, 16, x.phases.c.acc), (16, 8, x.phases.a.openCount), (24, 8, x.phases.b.openCount)] ∧
      shown (base + 4) [(0, 8, x.phases.c.openCount), (8, 6, x.phases.a.window.length),
        (16, 6, x.phases.b.window.length), (24, 6, x.phases.c.window.length)] ∧
      ∀ k ∈ [5, 6, 7], shown (base + k) []) ∧
    (∀ n : SectionNo,
      let a := s.actions[n]
      let base := 0x1400 + 4 * n.val
      let defined (k : Nat) : Nat := if a.state = .noAction then 0 else k
      shown base [(0, 3, a.state.code), (4, 3, defined a.cause.code), (8, 6, defined a.target.val),
        (16, 3, a.attempts), (20, 1, a.firstSent.isSome.toNat), (21, 1, a.lastSent.isSome.toNat)] ∧
      shown (base + 1) [(0, 16, orZero a.firstSent), (16, 16, orZero a.lastSent)] ∧
      shown (base + 2) ((List.finRange 32).map (fun j => (j.val, 1, (decide (j ∈ a.origins)).toNat))) ∧
      shown (base + 3) [(0, 6, a.origins.length)]) ∧
    (∀ i : CaptureNo,
      let b := s.captures[i]
      let base := 0x1800 + 128 * i.val
      let record (k : Nat) := b.records[k]?
      let values (k : Nat) (p : Phase) : Option PhaseValues := (record k).bind (fun r => r.phases.map (fun v => v.get p))
      let count (k : Nat) (p : Phase) : Nat := ((values k p).map PhaseValues.openCount).getD 0
      let present (x : Option Nat) : Nat := x.getD 65535
      shown base [(0, 2, b.state.code), (2, 1, b.short.toNat), (3, 1, b.trigger.code), (4, 3, b.profile.val),
        (8, 5, b.sec.val), (16, 4, b.pre), (24, 4, b.post)] ∧
      shown (base + 1) [(0, 16, b.triggerEpoch.toNat)] ∧
      shown (base + 2) ((List.range 32).map (fun k =>
        (k, 1, ((record k).bind EvalRecord.phases).isSome.toNat))) ∧
      (∀ k < 4, shown (base + 4 + k) ((List.range 4).map (fun j => (8 * j, 8, count (4 * k + j) .c)))) ∧
      (∀ k ∈ [3, 8, 9, 10, 11, 12, 13, 14, 15], shown (base + k) []) ∧
      ∀ k < 16, let first := base + 16 + 7 * k
        shown first [(0, 16, ((record k).map (fun r => r.epoch.toNat)).getD 0), (16, 8, count k .a), (24, 8, count k .b)] ∧
        ∀ place ∈ [(Phase.a, 1), (.b, 3), (.c, 5)],
          (values k place.1 = none → shown (first + place.2) [] ∧ shown (first + place.2 + 1) []) ∧
          ∀ v, values k place.1 = some v →
            shown (first + place.2) [(0, 16, present v.umag), (16, 16, present v.dmag)] ∧
            shown (first + place.2 + 1) [(0, 16, present v.threshold), (16, 16, v.acc)]) ∧
    ∀ a : Nat, readWord a s ≠ none ↔
      ∃ region ∈ [(0x0000, 0x0003), (0x0100, 0x027F), (0x0300, 0x035F), (0x0400, 0x04BF), (0x1000, 0x1003),
                  (0x1100, 0x117F), (0x1200, 0x12FF), (0x1400, 0x147F), (0x1800, 0x19FF)],
        region.1 ≤ a ∧ a ≤ region.2) ∧
  ∀ (address : BitVec 16) (count : Byte) (s : State), Serving s →
    let addresses := (List.range count.toNat).map (fun i => address.toNat + i)
    let counted := 1 ≤ count.toNat ∧ count.toNat ≤ 64
    let mapped := ∀ a ∈ addresses, readWord a s ≠ none
    let filling := ∃ a ∈ addresses, ∃ i : CaptureNo,
      0x1800 + 128 * i.val ≤ a ∧ a < 0x1800 + 128 * (i.val + 1) ∧ s.captures[i].state = .filling
    (¬counted → exec (.read address count) s = .next (s.answered 1 .badLength [])) ∧
    (counted → ¬mapped → exec (.read address count) s = .next (s.answered 1 .badAddress [])) ∧
    (counted → mapped → filling → exec (.read address count) s = .next (s.answered 1 .notReady [])) ∧
    (counted → ¬filling → ∀ words : List Word, addresses.map (fun a => readWord a s) = words.map some →
      exec (.read address count) s = .next (s.answered 1 .ok (words.map bytes32).flatten))

/-- R183: the tests of a WRITE in their order, with the code of the first that fails; a refused WRITE changes nothing
and reports 0 entries. R184, R16, R69, R116: one that passes the tests and crosses the boundary of an entry does what a
WRITE up to the boundary and then a WRITE from it on do, and reports the entries written whole. -/
def Obligations.WriteTestsInOrder : Prop :=
  (∀ (base size entries entry : Nat) (head tail : List Word) (s : State), Serving s →
    (base, size, entries) ∈ [(0x0100, 6, 64), (0x0300, 12, 8), (0x0400, 6, 32)] →
    head ≠ [] → tail ≠ [] → head.length % size = 0 → (head ++ tail).length ≤ 64 →
    entry * size + (head ++ tail).length ≤ entries * size →
    let start := base + entry * size
    let touched (k : Nat) := entry ≤ k ∧ k * size < entry * size + (head ++ tail).length
    (base = 0x0300 → ∀ p : ProfileNo, touched p.val → profileInUse p s = false) →
    (base = 0x0400 → ∀ n : SectionNo, touched n.val → s.actions[n].state ≠ .pending ∧ s.actions[n].state ≠ .sent) →
    let count (words : List Word) : List Byte := [BitVec.ofNat 8 (words.length / size)]
    ∃ u t : State,
      exec (.write (BitVec.ofNat 16 start) head) s = .next (u.answered 2 .ok (count head)) ∧
      exec (.write (BitVec.ofNat 16 (start + head.length)) tail) u = .next (t.answered 2 .ok (count tail)) ∧
      exec (.write (BitVec.ofNat 16 start) (head ++ tail)) s = .next (t.answered 2 .ok (count (head ++ tail)))) ∧
  ∀ (address : BitVec 16) (words : List Word) (s : State), Serving s →
    let a := address.toNat
    let refused (code : ResultCode) : Prop := exec (.write address words) s = .next (s.answered 2 code [0])
    let settings := a ≤ 0x0003
    let streams := 0x0100 ≤ a ∧ a ≤ 0x027F
    let profiles := 0x0300 ≤ a ∧ a ≤ 0x035F
    let sections := 0x0400 ≤ a ∧ a ≤ 0x04BF
    let last := a + words.length - 1
    (words.length = 0 ∨ 64 < words.length → refused .badLength) ∧
    (1 ≤ words.length → words.length ≤ 64 →
      (¬settings → ¬streams → ¬profiles → ¬sections → refused .badAddress) ∧
      (settings → a ≠ 0 → refused .badAddress) ∧
      (a = 0 → words.length ≠ 4 → refused .badLength) ∧
      (a = 0 → words.length = 4 → (allowanceL (settingsOf words) = 0 ∨ 12 < allowanceL (settingsOf words)) →
        refused .badValue) ∧
      (streams → (a - 0x0100) % 6 ≠ 0 ∨ 0x027F < last → refused .badAddress) ∧
      (profiles → (a - 0x0300) % 12 ≠ 0 ∨ 0x035F < last → refused .badAddress) ∧
      (sections → (a - 0x0400) % 6 ≠ 0 ∨ 0x04BF < last → refused .badAddress) ∧
      (profiles → (a - 0x0300) % 12 = 0 → last ≤ 0x035F →
        (∃ p : ProfileNo, (a - 0x0300) / 12 ≤ p.val ∧ p.val ≤ (last - 0x0300) / 12 ∧ profileInUse p s = true) →
        refused .inUse) ∧
      (sections → (a - 0x0400) % 6 = 0 → last ≤ 0x04BF →
        (∃ n : SectionNo, (a - 0x0400) / 6 ≤ n.val ∧ n.val ≤ (last - 0x0400) / 6 ∧
          (s.actions[n].state = .pending ∨ s.actions[n].state = .sent)) →
        refused .busy))

/-- R185, R36, R44, R62: a WRITE of the device settings with a valid L takes all fields at once, restarts the acceptance
progress, and discards the records behind a lowered window (0 entries reported, log entry 10). The progress after a
restart is WAITING in NEXT_ONLY, SKIPPING in SKIP_ONE_THEN_EVERY, and none in EVERY and OFF. 12.6, R193: where the
settings words hold their fields. -/
def Obligations.SettingsWriteResult : Prop :=
  (restartProgress .every = .nothing ∧ restartProgress .nextOnly = .waiting ∧
    restartProgress .skipOneThenEvery = .skipping ∧ restartProgress .off = .nothing) ∧
  SettingsFields ∧
  ∀ (a b c d : Word) (s : State), Serving s →
    let w : Vector Word 4 := #v[a, b, c, d]
    1 ≤ allowanceL w → allowanceL w ≤ 12 →
    exec (.write 0 [a, b, c, d]) s = .next (State.answered
      { s with settings := w, clock := { s.clock with progress := restartProgress (syncMode w) }
               slots :=
                 if allowanceL w < allowanceL s.settings then
                   s.slots.map (fun x =>
                     { x with ring := discardThrough (s.clock.c - BitVec.ofNat 16 (allowanceL w)) x.ring })
                 else s.slots }
      2 .ok [0])

/-- R116, R117, R195, R184: a WRITE of one profile entry not in use stores its words, with the held report mask positions
set, and commits it VALID or INVALID with the reason of the first check that fails; one that ends partway leaves the
entry LOADING. 12.6, R193: where the words hold their fields. R118: a profile is in use while a VALID section names it as
its normal or its elevated profile. -/
def Obligations.ProfileWriteResult : Prop :=
  ProfileFields ∧
  (∀ (p : ProfileNo) (s : State), profileInUse p s = true ↔
    ∃ (n : SectionNo) (h : Hazard), s.sections[n].entry = .valid ∧ profileAt s.sections[n].words h = p) ∧
  ∀ (p : ProfileNo) (w : Vector Word 12) (s : State), Serving s → profileInUse p s = false →
    let address := BitVec.ofNat 16 (0x0300 + 12 * p.val)
    (∃ t, exec (.write address w.toList) s = .next (t.answered 2 .ok [1]) ∧ ProfileWritten p w s t) ∧
    ∀ k : Nat, 1 ≤ k → k < 12 →
      ∃ t, exec (.write address (w.toList.take k)) s = .next (t.answered 2 .ok [0]) ∧ ProfileLoading p k w s t

/-- R16, R17, R19, R34, R195, R184: a WRITE of one stream entry takes it out of service, stores its words and commits it;
VALID it starts ACQUIRING afresh, INVALID it holds no stream state and the reason of the first check that fails; one that
ends partway leaves the entry LOADING. 12.6, R193: where the words hold their fields. -/
def Obligations.StreamWriteResult : Prop :=
  StreamFields ∧
  ∀ (m : SlotNo) (w : Vector Word 6) (s : State), Serving s →
    let address := BitVec.ofNat 16 (0x0100 + 6 * m.val)
    (∃ t, exec (.write address w.toList) s = .next (t.answered 2 .ok [1]) ∧ StreamWritten m w s t) ∧
    ∀ k : Nat, 1 ≤ k → k < 6 →
      ∃ t, exec (.write address (w.toList.take k)) s = .next (t.answered 2 .ok [0]) ∧ StreamLoading m k w s t

/-- R69, R70, R72, R73, R158, R195, R184: a WRITE of one section entry whose action is not in flight takes it out of
service, stores its words and commits it; VALID it starts in ARMING with every block's state for it cleared, INVALID it
is OFF with the reason of the first check that fails; one that ends partway leaves the entry LOADING. A FILLING capture
of a section in HOLDOFF, WATCH or BLIND freezes short (R164) and no other capture changes. The records queued are those
of the leaving rule, of the kinds cleared and of a HELD action dropped, and the SECTION_STATE records (R83, R129, R141,
R89; log entries 18 and 20 for their order). 12.6, R193: where the words hold their fields. -/
def Obligations.SectionWriteResult : Prop :=
  SectionFields ∧
  ∀ (n : SectionNo) (w : Vector Word 6) (s : State), Serving s → s.actions[n].state ≠ .pending →
    s.actions[n].state ≠ .sent →
    let address := BitVec.ofNat 16 (0x0400 + 6 * n.val)
    (∃ t, exec (.write address w.toList) s = .next (t.answered 2 .ok [1]) ∧ SectionWritten n w s t) ∧
    ∀ k : Nat, 1 ≤ k → k < 6 →
      ∃ t, exec (.write address (w.toList.take k)) s = .next (t.answered 2 .ok [0]) ∧ SectionLoading n k w s t

/-- R187, R35, R49, R66, R91, R134, R158, R169, R179: RESTART is refused while any action is in flight and otherwise
returns the dynamic state of every block to its start, with tables, clock, ports, mode and hazard level kept. -/
def Obligations.RestartResult : Prop :=
  ∀ s : State, Serving s →
    let busy := ∃ n : SectionNo, s.actions[n].state = .pending ∨ s.actions[n].state = .sent
    (busy → exec .restart s = .next (s.answered 11 .actionBusy [])) ∧
    (¬busy → exec .restart s = .next (State.answered
      { s with
        slots := s.slots.map (fun x =>
          if x.entry = .valid then
            { words := x.words, entry := .valid, reason := x.reason, stream := .acquiring
              sticky := ⟨false, false, false, false, false, false⟩, errors := 0, position := .unknown
              everLocked := false, staleCount := 0, ring := Vector.replicate 16 none }
          else { x with ring := Vector.replicate 16 none })
        sections := s.sections.map (fun x =>
          if x.entry = .valid then
            { words := x.words, entry := .valid, reason := x.reason, mode := .arming, next := 0, incomplete := 0
              holdoff := 0, history := [], phases := startPhases }
          else x)
        conds := Vector.replicate 32 ConditionSet.empty
        actions := Vector.replicate 32 ActionRecord.none
        captures := Vector.replicate 4 Capture.cleared
        missed := Vector.replicate 32 false
        report :=
          { queue := [], owedDevice := false, owedSections := Vector.replicate 32 false
            owedSlots := Vector.replicate 64 false } }
      11 .ok []))

/-- R188 in the layout of 12.3: IDENTIFY is answered OK with the part's identity and changes nothing: part code 2616,
revision 1, 64 streams, 8 profiles, 32 sections, 4 captures, the image status, the identity when an image was applied,
and TAG as it stands at the request. The command brings TAG (log entry 13), its answer is kept in lastResult (log entry
7), and the identity bytes of NONE are 0 (log entry 33). -/
def Obligations.IdentifyResult : Prop :=
  ∀ (tag : BitVec 10) (s : State), Serving s →
    let status : Byte := match s.imageStatus with
      | .noImage => 0
      | .rejected => 1
      | .applied => 2
      | .appliedWithErrors => 3
    let head : List Byte := [0x0A, 0x38, 1, 64, 8, 32, 4, status]
    let tagBytes : List Byte := bytes16 (tag.setWidth 16)
    let answered (data : List Byte) := exec (.identify tag) s = .next ((s.tagged tag).answered 12 .ok data)
    ((s.imageStatus = .noImage ∨ s.imageStatus = .rejected ∨ s.imageIdentity = none) →
      answered (head ++ [0, 0, 0, 0, 0] ++ tagBytes)) ∧
    ∀ id : Word, (s.imageStatus = .applied ∨ s.imageStatus = .appliedWithErrors) → s.imageIdentity = some id →
      answered (head ++ 1 :: bytes32 id ++ tagBytes)

/-- R9, R180, R184, R194: a MGMT frame is taken when no frame is being executed and the reply hold is empty, with its
requests in their order and the device mode as it stands then. Its execution goes on piece by piece (log entry 16): the
next request, answered NOT_READY with no effect in STARTING, executed when it is no WRITE, and its result added; a WRITE
that R183 refuses answered with that code; a WRITE of one entry word by word, the entry LOADING until its last word
commits it. A request does what the request command of its code and parameters does, or is BAD_LENGTH or BAD_VALUE for its
parameter length; a WRITE carried to its end does what the WRITE command does, and one that reaches the first word of an
entry whose section's action is in flight ends BUSY with the entries committed. When no request is left the reply is placed
in the reply hold, with TAG and the results in request order. Several
pieces are one after another, and a frame carried to its end is so many pieces of it. -/
def Obligations.MgmtFrameIsAnswered : Prop :=
  (∀ (bytes source : List Byte) (rest : List (List Byte)) (own : BitVec 16) (tag : BitVec 10)
    (requests : List RawRequest) (s : State),
    Running s → s.executing = none → s.port.replyHold = none → s.port.intake = bytes :: rest →
    parseFrame bytes = .mgmt own source requests →
    let e : MgmtExec := { dest := source, mode := s.mode, todo := requests, results := [], writing := none }
    let taken : State := { s.tagged tag with port := { s.port with intake := rest }, executing := some e }
    exec (.mgmtFrameTaken (some 0) tag) s = .next taken ∧
    ∀ pieces, exec (.mgmtFrameTaken pieces tag) s = exec (.mgmtFrameTaken pieces tag) taken) ∧
  ∀ (e : MgmtExec) (tag : BitVec 10) (s : State), Running s → s.executing = some e →
    let read := s.tagged tag
    let piece := exec (.mgmtFrameTaken (some 1) tag) s
    let added (code : Byte) (result : ResultCode) (data : List Byte) (todo : List RawRequest) : MgmtExec :=
      { e with todo := todo, results := e.results ++ [{ request := code, code := result, data := data }] }
    (∀ k u f, piece = .next u → u.executing = some f →
      exec (.mgmtFrameTaken (some (k + 1)) tag) s = exec (.mgmtFrameTaken (some k) tag) u) ∧
    (∃ k t, exec (.mgmtFrameTaken (some k) tag) s = .next t ∧ exec (.mgmtFrameTaken none tag) s = .next t ∧
      t.executing = none) ∧
    (∀ (w : TableWrite) (v : Word) (rest : List Word) (n : SectionNo), e.writing = some w → w.words = v :: rest →
      w.address = 0x0400 + 6 * n.val → s.actions[n].state = .pending ∨ s.actions[n].state = .sent →
      piece = .next { read with
        executing := some { e with
          writing := none
          results := e.results ++ [{ request := 2, code := .busy, data := [BitVec.ofNat 8 w.committed] }] } }) ∧
    (e.writing = none →
      (e.todo = [] → piece = .next { read with
        executing := none
        port := { s.port with replyHold := some { dest := e.dest, tag := tag, results := e.results } } }) ∧
      ∀ (q : RawRequest) (todo : List RawRequest), e.todo = q :: todo →
        (e.mode = .starting → piece = .next
          { read with executing := some (added q.code .notReady (if q.code = 2 then [0] else []) todo) }) ∧
        (e.mode ≠ .starting → q.code ≠ 2 →
          let done := runRequest q read
          piece = .next { done.1 with executing := some (added q.code done.2.1 done.2.2 todo) }) ∧
        (e.mode ≠ .starting → s.mode ≠ .starting →
          ∀ c : Instr, requestCarried c = some q → (∀ other, c = .identify other → other = tag) →
            ∃ (t : State) (result : ResultCode) (data : List Byte),
              exec c { read with executing := none } = .next (t.answered q.code result data) ∧
              piece = .next { t with executing := some (added q.code result data todo), lastResult := s.lastResult }) ∧
        (e.mode ≠ .starting →
          (q.code = 1 → q.params.length ≠ 3 →
            piece = .next { read with executing := some (added 1 .badLength [] todo) }) ∧
          ∀ length : Nat,
            (q.code.toNat, length) ∈ [(3, 1), (4, 2), (5, 1), (6, 2), (7, 1), (8, 1), (9, 0), (10, 0), (11, 0), (12, 0)] →
            q.params.length ≠ length →
            piece = .next { read with executing := some (added q.code .badValue [] todo) }) ∧
        (e.mode ≠ .starting → q.code.toNat = 0 ∨ 12 < q.code.toNat →
          piece = .next { read with executing := some (added q.code .badValue [] todo) }) ∧
        (e.mode ≠ .starting → q.code = 2 → q.params.length % 4 ≠ 2 →
          piece = .next { read with executing := some (added 2 .badLength [0] todo) }) ∧
        ∀ (address : BitVec 16) (words : List Word), e.mode ≠ .starting → q.code = 2 →
          q.params = bytes16 address ++ (words.map bytes32).flatten →
          (∀ code, writeRefusal address.toNat words s = some code →
            piece = .next { read with executing := some (added 2 code [0] todo) } ∧
            (s.mode ≠ .starting → exec (.write address words) { read with executing := none } =
              .next (State.answered { read with executing := none } 2 code [0]))) ∧
          (s.mode ≠ .starting → writeRefusal address.toNat words s = none →
            ∃ (t : State) (data : List Byte),
              exec (.write address words) { read with executing := none } = .next (t.answered 2 .ok data) ∧
              exec (.mgmtFrameTaken (some (if address = 0 then 1 else words.length)) tag) s = .next
                { t with executing := some (added 2 .ok data todo), lastResult := s.lastResult }) ∧
          (∀ (p : ProfileNo) (w : Vector Word 12) (k : Nat), address.toNat = 0x0300 + 12 * p.val → words = w.toList →
            profileInUse p s = false → 1 ≤ k → k < 12 →
            ∃ t, exec (.mgmtFrameTaken (some k) tag) s = .next { t with
                executing := some { e with
                  todo := todo, writing := some { address := address.toNat + k, words := words.drop k, committed := 0 } } } ∧
              ProfileLoading p k w read t) ∧
          (∀ (n : SectionNo) (w : Vector Word 6) (k : Nat), address.toNat = 0x0400 + 6 * n.val → words = w.toList →
            s.actions[n].state ≠ .pending → s.actions[n].state ≠ .sent → 1 ≤ k → k < 6 →
            ∃ t, exec (.mgmtFrameTaken (some k) tag) s = .next { t with
                executing := some { e with
                  todo := todo, writing := some { address := address.toNat + k, words := words.drop k, committed := 0 } } } ∧
              SectionLoading n k w read t) ∧
          ∀ (m : SlotNo) (w : Vector Word 6), address.toNat = 0x0100 + 6 * m.val → words = w.toList →
            (∃ t, exec (.mgmtFrameTaken (some 6) tag) s =
                .next { t with executing := some (added 2 .ok [1] todo) } ∧ StreamWritten m w read t) ∧
            ∀ k : Nat, 1 ≤ k → k < 6 → ∃ t,
              exec (.mgmtFrameTaken (some k) tag) s = .next { t with
                executing := some { e with
                  todo := todo, writing := some { address := address.toNat + k, words := words.drop k, committed := 0 } } } ∧
              StreamLoading m k w read t)

/-! ## The report unit and the queues -/

/-- Every step keeps the queues within their capacities, and the report queue full while any owed mark is set. -/
def Obligations.StepKeepsQueues : Prop :=
  ∀ s t : State, QueuesHold s → step s = .next t → QueuesHold t

/-- The state after reset meets every invariant. -/
def Obligations.ResetMeetsInvariants : Prop :=
  QueuesHold State.reset ∧ ActionsHold State.reset ∧ CapturesHold State.reset ∧ DetectionHolds State.reset ∧
  SectionsHold State.reset ∧ StreamsHold State.reset
end

