-- ==== Sys2Proof/Laws/State.lean ====
section
/-! SUPPORT. For each update of one part of the state, one lemma per field of State: the field it writes, and every
field it leaves. -/

namespace Sys2Proof.Machine

/-! ## State.modPort -/

@[simp] theorem State.modPort_pins (f : PortState → PortState) (s : State) : (s.modPort f).pins = s.pins := rfl
@[simp] theorem State.modPort_port (f : PortState → PortState) (s : State) : (s.modPort f).port = f s.port := rfl
@[simp] theorem State.modPort_slots (f : PortState → PortState) (s : State) : (s.modPort f).slots = s.slots := rfl
@[simp] theorem State.modPort_clock (f : PortState → PortState) (s : State) : (s.modPort f).clock = s.clock := rfl
@[simp] theorem State.modPort_closureMark (f : PortState → PortState) (s : State) : (s.modPort f).closureMark = s.closureMark := rfl
@[simp] theorem State.modPort_sections (f : PortState → PortState) (s : State) : (s.modPort f).sections = s.sections := rfl
@[simp] theorem State.modPort_conds (f : PortState → PortState) (s : State) : (s.modPort f).conds = s.conds := rfl
@[simp] theorem State.modPort_profiles (f : PortState → PortState) (s : State) : (s.modPort f).profiles = s.profiles := rfl
@[simp] theorem State.modPort_hazard (f : PortState → PortState) (s : State) : (s.modPort f).hazard = s.hazard := rfl
@[simp] theorem State.modPort_actions (f : PortState → PortState) (s : State) : (s.modPort f).actions = s.actions := rfl
@[simp] theorem State.modPort_captures (f : PortState → PortState) (s : State) : (s.modPort f).captures = s.captures := rfl
@[simp] theorem State.modPort_missed (f : PortState → PortState) (s : State) : (s.modPort f).missed = s.missed := rfl
@[simp] theorem State.modPort_report (f : PortState → PortState) (s : State) : (s.modPort f).report = s.report := rfl
@[simp] theorem State.modPort_settings (f : PortState → PortState) (s : State) : (s.modPort f).settings = s.settings := rfl
@[simp] theorem State.modPort_mode (f : PortState → PortState) (s : State) : (s.modPort f).mode = s.mode := rfl
@[simp] theorem State.modPort_imageStatus (f : PortState → PortState) (s : State) : (s.modPort f).imageStatus = s.imageStatus := rfl
@[simp] theorem State.modPort_imageIdentity (f : PortState → PortState) (s : State) : (s.modPort f).imageIdentity = s.imageIdentity := rfl
@[simp] theorem State.modPort_boot (f : PortState → PortState) (s : State) : (s.modPort f).boot = s.boot := rfl
@[simp] theorem State.modPort_executing (f : PortState → PortState) (s : State) : (s.modPort f).executing = s.executing := rfl
@[simp] theorem State.modPort_lastResult (f : PortState → PortState) (s : State) : (s.modPort f).lastResult = s.lastResult := rfl
@[simp] theorem State.modPort_order (f : PortState → PortState) (s : State) : (s.modPort f).order = s.order := rfl
@[simp] theorem State.modPort_orderIndex (f : PortState → PortState) (s : State) : (s.modPort f).orderIndex = s.orderIndex := rfl
@[simp] theorem State.modPort_pending (f : PortState → PortState) (s : State) : (s.modPort f).pending = s.pending := rfl

/-! ## State.modClock -/

@[simp] theorem State.modClock_pins (f : EpochClock → EpochClock) (s : State) : (s.modClock f).pins = s.pins := rfl
@[simp] theorem State.modClock_port (f : EpochClock → EpochClock) (s : State) : (s.modClock f).port = s.port := rfl
@[simp] theorem State.modClock_slots (f : EpochClock → EpochClock) (s : State) : (s.modClock f).slots = s.slots := rfl
@[simp] theorem State.modClock_clock (f : EpochClock → EpochClock) (s : State) : (s.modClock f).clock = f s.clock := rfl
@[simp] theorem State.modClock_closureMark (f : EpochClock → EpochClock) (s : State) : (s.modClock f).closureMark = s.closureMark := rfl
@[simp] theorem State.modClock_sections (f : EpochClock → EpochClock) (s : State) : (s.modClock f).sections = s.sections := rfl
@[simp] theorem State.modClock_conds (f : EpochClock → EpochClock) (s : State) : (s.modClock f).conds = s.conds := rfl
@[simp] theorem State.modClock_profiles (f : EpochClock → EpochClock) (s : State) : (s.modClock f).profiles = s.profiles := rfl
@[simp] theorem State.modClock_hazard (f : EpochClock → EpochClock) (s : State) : (s.modClock f).hazard = s.hazard := rfl
@[simp] theorem State.modClock_actions (f : EpochClock → EpochClock) (s : State) : (s.modClock f).actions = s.actions := rfl
@[simp] theorem State.modClock_captures (f : EpochClock → EpochClock) (s : State) : (s.modClock f).captures = s.captures := rfl
@[simp] theorem State.modClock_missed (f : EpochClock → EpochClock) (s : State) : (s.modClock f).missed = s.missed := rfl
@[simp] theorem State.modClock_report (f : EpochClock → EpochClock) (s : State) : (s.modClock f).report = s.report := rfl
@[simp] theorem State.modClock_settings (f : EpochClock → EpochClock) (s : State) : (s.modClock f).settings = s.settings := rfl
@[simp] theorem State.modClock_mode (f : EpochClock → EpochClock) (s : State) : (s.modClock f).mode = s.mode := rfl
@[simp] theorem State.modClock_imageStatus (f : EpochClock → EpochClock) (s : State) : (s.modClock f).imageStatus = s.imageStatus := rfl
@[simp] theorem State.modClock_imageIdentity (f : EpochClock → EpochClock) (s : State) : (s.modClock f).imageIdentity = s.imageIdentity := rfl
@[simp] theorem State.modClock_boot (f : EpochClock → EpochClock) (s : State) : (s.modClock f).boot = s.boot := rfl
@[simp] theorem State.modClock_executing (f : EpochClock → EpochClock) (s : State) : (s.modClock f).executing = s.executing := rfl
@[simp] theorem State.modClock_lastResult (f : EpochClock → EpochClock) (s : State) : (s.modClock f).lastResult = s.lastResult := rfl
@[simp] theorem State.modClock_order (f : EpochClock → EpochClock) (s : State) : (s.modClock f).order = s.order := rfl
@[simp] theorem State.modClock_orderIndex (f : EpochClock → EpochClock) (s : State) : (s.modClock f).orderIndex = s.orderIndex := rfl
@[simp] theorem State.modClock_pending (f : EpochClock → EpochClock) (s : State) : (s.modClock f).pending = s.pending := rfl

/-! ## State.modSlot -/

@[simp] theorem State.modSlot_pins (m : SlotNo) (f : SlotState → SlotState) (s : State) : (s.modSlot m f).pins = s.pins := rfl
@[simp] theorem State.modSlot_port (m : SlotNo) (f : SlotState → SlotState) (s : State) : (s.modSlot m f).port = s.port := rfl
@[simp] theorem State.modSlot_slots (m : SlotNo) (f : SlotState → SlotState) (s : State) : (s.modSlot m f).slots = s.slots.set m (f s.slots[m]) := rfl
@[simp] theorem State.modSlot_clock (m : SlotNo) (f : SlotState → SlotState) (s : State) : (s.modSlot m f).clock = s.clock := rfl
@[simp] theorem State.modSlot_closureMark (m : SlotNo) (f : SlotState → SlotState) (s : State) : (s.modSlot m f).closureMark = s.closureMark := rfl
@[simp] theorem State.modSlot_sections (m : SlotNo) (f : SlotState → SlotState) (s : State) : (s.modSlot m f).sections = s.sections := rfl
@[simp] theorem State.modSlot_conds (m : SlotNo) (f : SlotState → SlotState) (s : State) : (s.modSlot m f).conds = s.conds := rfl
@[simp] theorem State.modSlot_profiles (m : SlotNo) (f : SlotState → SlotState) (s : State) : (s.modSlot m f).profiles = s.profiles := rfl
@[simp] theorem State.modSlot_hazard (m : SlotNo) (f : SlotState → SlotState) (s : State) : (s.modSlot m f).hazard = s.hazard := rfl
@[simp] theorem State.modSlot_actions (m : SlotNo) (f : SlotState → SlotState) (s : State) : (s.modSlot m f).actions = s.actions := rfl
@[simp] theorem State.modSlot_captures (m : SlotNo) (f : SlotState → SlotState) (s : State) : (s.modSlot m f).captures = s.captures := rfl
@[simp] theorem State.modSlot_missed (m : SlotNo) (f : SlotState → SlotState) (s : State) : (s.modSlot m f).missed = s.missed := rfl
@[simp] theorem State.modSlot_report (m : SlotNo) (f : SlotState → SlotState) (s : State) : (s.modSlot m f).report = s.report := rfl
@[simp] theorem State.modSlot_settings (m : SlotNo) (f : SlotState → SlotState) (s : State) : (s.modSlot m f).settings = s.settings := rfl
@[simp] theorem State.modSlot_mode (m : SlotNo) (f : SlotState → SlotState) (s : State) : (s.modSlot m f).mode = s.mode := rfl
@[simp] theorem State.modSlot_imageStatus (m : SlotNo) (f : SlotState → SlotState) (s : State) : (s.modSlot m f).imageStatus = s.imageStatus := rfl
@[simp] theorem State.modSlot_imageIdentity (m : SlotNo) (f : SlotState → SlotState) (s : State) : (s.modSlot m f).imageIdentity = s.imageIdentity := rfl
@[simp] theorem State.modSlot_boot (m : SlotNo) (f : SlotState → SlotState) (s : State) : (s.modSlot m f).boot = s.boot := rfl
@[simp] theorem State.modSlot_executing (m : SlotNo) (f : SlotState → SlotState) (s : State) : (s.modSlot m f).executing = s.executing := rfl
@[simp] theorem State.modSlot_lastResult (m : SlotNo) (f : SlotState → SlotState) (s : State) : (s.modSlot m f).lastResult = s.lastResult := rfl
@[simp] theorem State.modSlot_order (m : SlotNo) (f : SlotState → SlotState) (s : State) : (s.modSlot m f).order = s.order := rfl
@[simp] theorem State.modSlot_orderIndex (m : SlotNo) (f : SlotState → SlotState) (s : State) : (s.modSlot m f).orderIndex = s.orderIndex := rfl
@[simp] theorem State.modSlot_pending (m : SlotNo) (f : SlotState → SlotState) (s : State) : (s.modSlot m f).pending = s.pending := rfl

/-! ## State.modSection -/

@[simp] theorem State.modSection_pins (n : SectionNo) (f : SectionState → SectionState) (s : State) : (s.modSection n f).pins = s.pins := rfl
@[simp] theorem State.modSection_port (n : SectionNo) (f : SectionState → SectionState) (s : State) : (s.modSection n f).port = s.port := rfl
@[simp] theorem State.modSection_slots (n : SectionNo) (f : SectionState → SectionState) (s : State) : (s.modSection n f).slots = s.slots := rfl
@[simp] theorem State.modSection_clock (n : SectionNo) (f : SectionState → SectionState) (s : State) : (s.modSection n f).clock = s.clock := rfl
@[simp] theorem State.modSection_closureMark (n : SectionNo) (f : SectionState → SectionState) (s : State) : (s.modSection n f).closureMark = s.closureMark := rfl
@[simp] theorem State.modSection_sections (n : SectionNo) (f : SectionState → SectionState) (s : State) : (s.modSection n f).sections = s.sections.set n (f s.sections[n]) := rfl
@[simp] theorem State.modSection_conds (n : SectionNo) (f : SectionState → SectionState) (s : State) : (s.modSection n f).conds = s.conds := rfl
@[simp] theorem State.modSection_profiles (n : SectionNo) (f : SectionState → SectionState) (s : State) : (s.modSection n f).profiles = s.profiles := rfl
@[simp] theorem State.modSection_hazard (n : SectionNo) (f : SectionState → SectionState) (s : State) : (s.modSection n f).hazard = s.hazard := rfl
@[simp] theorem State.modSection_actions (n : SectionNo) (f : SectionState → SectionState) (s : State) : (s.modSection n f).actions = s.actions := rfl
@[simp] theorem State.modSection_captures (n : SectionNo) (f : SectionState → SectionState) (s : State) : (s.modSection n f).captures = s.captures := rfl
@[simp] theorem State.modSection_missed (n : SectionNo) (f : SectionState → SectionState) (s : State) : (s.modSection n f).missed = s.missed := rfl
@[simp] theorem State.modSection_report (n : SectionNo) (f : SectionState → SectionState) (s : State) : (s.modSection n f).report = s.report := rfl
@[simp] theorem State.modSection_settings (n : SectionNo) (f : SectionState → SectionState) (s : State) : (s.modSection n f).settings = s.settings := rfl
@[simp] theorem State.modSection_mode (n : SectionNo) (f : SectionState → SectionState) (s : State) : (s.modSection n f).mode = s.mode := rfl
@[simp] theorem State.modSection_imageStatus (n : SectionNo) (f : SectionState → SectionState) (s : State) : (s.modSection n f).imageStatus = s.imageStatus := rfl
@[simp] theorem State.modSection_imageIdentity (n : SectionNo) (f : SectionState → SectionState) (s : State) : (s.modSection n f).imageIdentity = s.imageIdentity := rfl
@[simp] theorem State.modSection_boot (n : SectionNo) (f : SectionState → SectionState) (s : State) : (s.modSection n f).boot = s.boot := rfl
@[simp] theorem State.modSection_executing (n : SectionNo) (f : SectionState → SectionState) (s : State) : (s.modSection n f).executing = s.executing := rfl
@[simp] theorem State.modSection_lastResult (n : SectionNo) (f : SectionState → SectionState) (s : State) : (s.modSection n f).lastResult = s.lastResult := rfl
@[simp] theorem State.modSection_order (n : SectionNo) (f : SectionState → SectionState) (s : State) : (s.modSection n f).order = s.order := rfl
@[simp] theorem State.modSection_orderIndex (n : SectionNo) (f : SectionState → SectionState) (s : State) : (s.modSection n f).orderIndex = s.orderIndex := rfl
@[simp] theorem State.modSection_pending (n : SectionNo) (f : SectionState → SectionState) (s : State) : (s.modSection n f).pending = s.pending := rfl

/-! ## State.modConds -/

@[simp] theorem State.modConds_pins (n : SectionNo) (f : ConditionSet → ConditionSet) (s : State) : (s.modConds n f).pins = s.pins := rfl
@[simp] theorem State.modConds_port (n : SectionNo) (f : ConditionSet → ConditionSet) (s : State) : (s.modConds n f).port = s.port := rfl
@[simp] theorem State.modConds_slots (n : SectionNo) (f : ConditionSet → ConditionSet) (s : State) : (s.modConds n f).slots = s.slots := rfl
@[simp] theorem State.modConds_clock (n : SectionNo) (f : ConditionSet → ConditionSet) (s : State) : (s.modConds n f).clock = s.clock := rfl
@[simp] theorem State.modConds_closureMark (n : SectionNo) (f : ConditionSet → ConditionSet) (s : State) : (s.modConds n f).closureMark = s.closureMark := rfl
@[simp] theorem State.modConds_sections (n : SectionNo) (f : ConditionSet → ConditionSet) (s : State) : (s.modConds n f).sections = s.sections := rfl
@[simp] theorem State.modConds_conds (n : SectionNo) (f : ConditionSet → ConditionSet) (s : State) : (s.modConds n f).conds = s.conds.set n (f s.conds[n]) := rfl
@[simp] theorem State.modConds_profiles (n : SectionNo) (f : ConditionSet → ConditionSet) (s : State) : (s.modConds n f).profiles = s.profiles := rfl
@[simp] theorem State.modConds_hazard (n : SectionNo) (f : ConditionSet → ConditionSet) (s : State) : (s.modConds n f).hazard = s.hazard := rfl
@[simp] theorem State.modConds_actions (n : SectionNo) (f : ConditionSet → ConditionSet) (s : State) : (s.modConds n f).actions = s.actions := rfl
@[simp] theorem State.modConds_captures (n : SectionNo) (f : ConditionSet → ConditionSet) (s : State) : (s.modConds n f).captures = s.captures := rfl
@[simp] theorem State.modConds_missed (n : SectionNo) (f : ConditionSet → ConditionSet) (s : State) : (s.modConds n f).missed = s.missed := rfl
@[simp] theorem State.modConds_report (n : SectionNo) (f : ConditionSet → ConditionSet) (s : State) : (s.modConds n f).report = s.report := rfl
@[simp] theorem State.modConds_settings (n : SectionNo) (f : ConditionSet → ConditionSet) (s : State) : (s.modConds n f).settings = s.settings := rfl
@[simp] theorem State.modConds_mode (n : SectionNo) (f : ConditionSet → ConditionSet) (s : State) : (s.modConds n f).mode = s.mode := rfl
@[simp] theorem State.modConds_imageStatus (n : SectionNo) (f : ConditionSet → ConditionSet) (s : State) : (s.modConds n f).imageStatus = s.imageStatus := rfl
@[simp] theorem State.modConds_imageIdentity (n : SectionNo) (f : ConditionSet → ConditionSet) (s : State) : (s.modConds n f).imageIdentity = s.imageIdentity := rfl
@[simp] theorem State.modConds_boot (n : SectionNo) (f : ConditionSet → ConditionSet) (s : State) : (s.modConds n f).boot = s.boot := rfl
@[simp] theorem State.modConds_executing (n : SectionNo) (f : ConditionSet → ConditionSet) (s : State) : (s.modConds n f).executing = s.executing := rfl
@[simp] theorem State.modConds_lastResult (n : SectionNo) (f : ConditionSet → ConditionSet) (s : State) : (s.modConds n f).lastResult = s.lastResult := rfl
@[simp] theorem State.modConds_order (n : SectionNo) (f : ConditionSet → ConditionSet) (s : State) : (s.modConds n f).order = s.order := rfl
@[simp] theorem State.modConds_orderIndex (n : SectionNo) (f : ConditionSet → ConditionSet) (s : State) : (s.modConds n f).orderIndex = s.orderIndex := rfl
@[simp] theorem State.modConds_pending (n : SectionNo) (f : ConditionSet → ConditionSet) (s : State) : (s.modConds n f).pending = s.pending := rfl

/-! ## State.modProfile -/

@[simp] theorem State.modProfile_pins (p : ProfileNo) (f : ProfileEntry → ProfileEntry) (s : State) : (s.modProfile p f).pins = s.pins := rfl
@[simp] theorem State.modProfile_port (p : ProfileNo) (f : ProfileEntry → ProfileEntry) (s : State) : (s.modProfile p f).port = s.port := rfl
@[simp] theorem State.modProfile_slots (p : ProfileNo) (f : ProfileEntry → ProfileEntry) (s : State) : (s.modProfile p f).slots = s.slots := rfl
@[simp] theorem State.modProfile_clock (p : ProfileNo) (f : ProfileEntry → ProfileEntry) (s : State) : (s.modProfile p f).clock = s.clock := rfl
@[simp] theorem State.modProfile_closureMark (p : ProfileNo) (f : ProfileEntry → ProfileEntry) (s : State) : (s.modProfile p f).closureMark = s.closureMark := rfl
@[simp] theorem State.modProfile_sections (p : ProfileNo) (f : ProfileEntry → ProfileEntry) (s : State) : (s.modProfile p f).sections = s.sections := rfl
@[simp] theorem State.modProfile_conds (p : ProfileNo) (f : ProfileEntry → ProfileEntry) (s : State) : (s.modProfile p f).conds = s.conds := rfl
@[simp] theorem State.modProfile_profiles (p : ProfileNo) (f : ProfileEntry → ProfileEntry) (s : State) : (s.modProfile p f).profiles = s.profiles.set p (f s.profiles[p]) := rfl
@[simp] theorem State.modProfile_hazard (p : ProfileNo) (f : ProfileEntry → ProfileEntry) (s : State) : (s.modProfile p f).hazard = s.hazard := rfl
@[simp] theorem State.modProfile_actions (p : ProfileNo) (f : ProfileEntry → ProfileEntry) (s : State) : (s.modProfile p f).actions = s.actions := rfl
@[simp] theorem State.modProfile_captures (p : ProfileNo) (f : ProfileEntry → ProfileEntry) (s : State) : (s.modProfile p f).captures = s.captures := rfl
@[simp] theorem State.modProfile_missed (p : ProfileNo) (f : ProfileEntry → ProfileEntry) (s : State) : (s.modProfile p f).missed = s.missed := rfl
@[simp] theorem State.modProfile_report (p : ProfileNo) (f : ProfileEntry → ProfileEntry) (s : State) : (s.modProfile p f).report = s.report := rfl
@[simp] theorem State.modProfile_settings (p : ProfileNo) (f : ProfileEntry → ProfileEntry) (s : State) : (s.modProfile p f).settings = s.settings := rfl
@[simp] theorem State.modProfile_mode (p : ProfileNo) (f : ProfileEntry → ProfileEntry) (s : State) : (s.modProfile p f).mode = s.mode := rfl
@[simp] theorem State.modProfile_imageStatus (p : ProfileNo) (f : ProfileEntry → ProfileEntry) (s : State) : (s.modProfile p f).imageStatus = s.imageStatus := rfl
@[simp] theorem State.modProfile_imageIdentity (p : ProfileNo) (f : ProfileEntry → ProfileEntry) (s : State) : (s.modProfile p f).imageIdentity = s.imageIdentity := rfl
@[simp] theorem State.modProfile_boot (p : ProfileNo) (f : ProfileEntry → ProfileEntry) (s : State) : (s.modProfile p f).boot = s.boot := rfl
@[simp] theorem State.modProfile_executing (p : ProfileNo) (f : ProfileEntry → ProfileEntry) (s : State) : (s.modProfile p f).executing = s.executing := rfl
@[simp] theorem State.modProfile_lastResult (p : ProfileNo) (f : ProfileEntry → ProfileEntry) (s : State) : (s.modProfile p f).lastResult = s.lastResult := rfl
@[simp] theorem State.modProfile_order (p : ProfileNo) (f : ProfileEntry → ProfileEntry) (s : State) : (s.modProfile p f).order = s.order := rfl
@[simp] theorem State.modProfile_orderIndex (p : ProfileNo) (f : ProfileEntry → ProfileEntry) (s : State) : (s.modProfile p f).orderIndex = s.orderIndex := rfl
@[simp] theorem State.modProfile_pending (p : ProfileNo) (f : ProfileEntry → ProfileEntry) (s : State) : (s.modProfile p f).pending = s.pending := rfl

/-! ## State.modAction -/

@[simp] theorem State.modAction_pins (n : SectionNo) (f : ActionRecord → ActionRecord) (s : State) : (s.modAction n f).pins = s.pins := rfl
@[simp] theorem State.modAction_port (n : SectionNo) (f : ActionRecord → ActionRecord) (s : State) : (s.modAction n f).port = s.port := rfl
@[simp] theorem State.modAction_slots (n : SectionNo) (f : ActionRecord → ActionRecord) (s : State) : (s.modAction n f).slots = s.slots := rfl
@[simp] theorem State.modAction_clock (n : SectionNo) (f : ActionRecord → ActionRecord) (s : State) : (s.modAction n f).clock = s.clock := rfl
@[simp] theorem State.modAction_closureMark (n : SectionNo) (f : ActionRecord → ActionRecord) (s : State) : (s.modAction n f).closureMark = s.closureMark := rfl
@[simp] theorem State.modAction_sections (n : SectionNo) (f : ActionRecord → ActionRecord) (s : State) : (s.modAction n f).sections = s.sections := rfl
@[simp] theorem State.modAction_conds (n : SectionNo) (f : ActionRecord → ActionRecord) (s : State) : (s.modAction n f).conds = s.conds := rfl
@[simp] theorem State.modAction_profiles (n : SectionNo) (f : ActionRecord → ActionRecord) (s : State) : (s.modAction n f).profiles = s.profiles := rfl
@[simp] theorem State.modAction_hazard (n : SectionNo) (f : ActionRecord → ActionRecord) (s : State) : (s.modAction n f).hazard = s.hazard := rfl
@[simp] theorem State.modAction_actions (n : SectionNo) (f : ActionRecord → ActionRecord) (s : State) : (s.modAction n f).actions = s.actions.set n (f s.actions[n]) := rfl
@[simp] theorem State.modAction_captures (n : SectionNo) (f : ActionRecord → ActionRecord) (s : State) : (s.modAction n f).captures = s.captures := rfl
@[simp] theorem State.modAction_missed (n : SectionNo) (f : ActionRecord → ActionRecord) (s : State) : (s.modAction n f).missed = s.missed := rfl
@[simp] theorem State.modAction_report (n : SectionNo) (f : ActionRecord → ActionRecord) (s : State) : (s.modAction n f).report = s.report := rfl
@[simp] theorem State.modAction_settings (n : SectionNo) (f : ActionRecord → ActionRecord) (s : State) : (s.modAction n f).settings = s.settings := rfl
@[simp] theorem State.modAction_mode (n : SectionNo) (f : ActionRecord → ActionRecord) (s : State) : (s.modAction n f).mode = s.mode := rfl
@[simp] theorem State.modAction_imageStatus (n : SectionNo) (f : ActionRecord → ActionRecord) (s : State) : (s.modAction n f).imageStatus = s.imageStatus := rfl
@[simp] theorem State.modAction_imageIdentity (n : SectionNo) (f : ActionRecord → ActionRecord) (s : State) : (s.modAction n f).imageIdentity = s.imageIdentity := rfl
@[simp] theorem State.modAction_boot (n : SectionNo) (f : ActionRecord → ActionRecord) (s : State) : (s.modAction n f).boot = s.boot := rfl
@[simp] theorem State.modAction_executing (n : SectionNo) (f : ActionRecord → ActionRecord) (s : State) : (s.modAction n f).executing = s.executing := rfl
@[simp] theorem State.modAction_lastResult (n : SectionNo) (f : ActionRecord → ActionRecord) (s : State) : (s.modAction n f).lastResult = s.lastResult := rfl
@[simp] theorem State.modAction_order (n : SectionNo) (f : ActionRecord → ActionRecord) (s : State) : (s.modAction n f).order = s.order := rfl
@[simp] theorem State.modAction_orderIndex (n : SectionNo) (f : ActionRecord → ActionRecord) (s : State) : (s.modAction n f).orderIndex = s.orderIndex := rfl
@[simp] theorem State.modAction_pending (n : SectionNo) (f : ActionRecord → ActionRecord) (s : State) : (s.modAction n f).pending = s.pending := rfl

/-! ## State.setCapture -/

@[simp] theorem State.setCapture_pins (i : CaptureNo) (b : Capture) (s : State) : (s.setCapture i b).pins = s.pins := rfl
@[simp] theorem State.setCapture_port (i : CaptureNo) (b : Capture) (s : State) : (s.setCapture i b).port = s.port := rfl
@[simp] theorem State.setCapture_slots (i : CaptureNo) (b : Capture) (s : State) : (s.setCapture i b).slots = s.slots := rfl
@[simp] theorem State.setCapture_clock (i : CaptureNo) (b : Capture) (s : State) : (s.setCapture i b).clock = s.clock := rfl
@[simp] theorem State.setCapture_closureMark (i : CaptureNo) (b : Capture) (s : State) : (s.setCapture i b).closureMark = s.closureMark := rfl
@[simp] theorem State.setCapture_sections (i : CaptureNo) (b : Capture) (s : State) : (s.setCapture i b).sections = s.sections := rfl
@[simp] theorem State.setCapture_conds (i : CaptureNo) (b : Capture) (s : State) : (s.setCapture i b).conds = s.conds := rfl
@[simp] theorem State.setCapture_profiles (i : CaptureNo) (b : Capture) (s : State) : (s.setCapture i b).profiles = s.profiles := rfl
@[simp] theorem State.setCapture_hazard (i : CaptureNo) (b : Capture) (s : State) : (s.setCapture i b).hazard = s.hazard := rfl
@[simp] theorem State.setCapture_actions (i : CaptureNo) (b : Capture) (s : State) : (s.setCapture i b).actions = s.actions := rfl
@[simp] theorem State.setCapture_captures (i : CaptureNo) (b : Capture) (s : State) : (s.setCapture i b).captures = s.captures.set i b := rfl
@[simp] theorem State.setCapture_missed (i : CaptureNo) (b : Capture) (s : State) : (s.setCapture i b).missed = s.missed := rfl
@[simp] theorem State.setCapture_report (i : CaptureNo) (b : Capture) (s : State) : (s.setCapture i b).report = s.report := rfl
@[simp] theorem State.setCapture_settings (i : CaptureNo) (b : Capture) (s : State) : (s.setCapture i b).settings = s.settings := rfl
@[simp] theorem State.setCapture_mode (i : CaptureNo) (b : Capture) (s : State) : (s.setCapture i b).mode = s.mode := rfl
@[simp] theorem State.setCapture_imageStatus (i : CaptureNo) (b : Capture) (s : State) : (s.setCapture i b).imageStatus = s.imageStatus := rfl
@[simp] theorem State.setCapture_imageIdentity (i : CaptureNo) (b : Capture) (s : State) : (s.setCapture i b).imageIdentity = s.imageIdentity := rfl
@[simp] theorem State.setCapture_boot (i : CaptureNo) (b : Capture) (s : State) : (s.setCapture i b).boot = s.boot := rfl
@[simp] theorem State.setCapture_executing (i : CaptureNo) (b : Capture) (s : State) : (s.setCapture i b).executing = s.executing := rfl
@[simp] theorem State.setCapture_lastResult (i : CaptureNo) (b : Capture) (s : State) : (s.setCapture i b).lastResult = s.lastResult := rfl
@[simp] theorem State.setCapture_order (i : CaptureNo) (b : Capture) (s : State) : (s.setCapture i b).order = s.order := rfl
@[simp] theorem State.setCapture_orderIndex (i : CaptureNo) (b : Capture) (s : State) : (s.setCapture i b).orderIndex = s.orderIndex := rfl
@[simp] theorem State.setCapture_pending (i : CaptureNo) (b : Capture) (s : State) : (s.setCapture i b).pending = s.pending := rfl

/-! ## State.setMissed -/

@[simp] theorem State.setMissed_pins (n : SectionNo) (b : Bool) (s : State) : (s.setMissed n b).pins = s.pins := rfl
@[simp] theorem State.setMissed_port (n : SectionNo) (b : Bool) (s : State) : (s.setMissed n b).port = s.port := rfl
@[simp] theorem State.setMissed_slots (n : SectionNo) (b : Bool) (s : State) : (s.setMissed n b).slots = s.slots := rfl
@[simp] theorem State.setMissed_clock (n : SectionNo) (b : Bool) (s : State) : (s.setMissed n b).clock = s.clock := rfl
@[simp] theorem State.setMissed_closureMark (n : SectionNo) (b : Bool) (s : State) : (s.setMissed n b).closureMark = s.closureMark := rfl
@[simp] theorem State.setMissed_sections (n : SectionNo) (b : Bool) (s : State) : (s.setMissed n b).sections = s.sections := rfl
@[simp] theorem State.setMissed_conds (n : SectionNo) (b : Bool) (s : State) : (s.setMissed n b).conds = s.conds := rfl
@[simp] theorem State.setMissed_profiles (n : SectionNo) (b : Bool) (s : State) : (s.setMissed n b).profiles = s.profiles := rfl
@[simp] theorem State.setMissed_hazard (n : SectionNo) (b : Bool) (s : State) : (s.setMissed n b).hazard = s.hazard := rfl
@[simp] theorem State.setMissed_actions (n : SectionNo) (b : Bool) (s : State) : (s.setMissed n b).actions = s.actions := rfl
@[simp] theorem State.setMissed_captures (n : SectionNo) (b : Bool) (s : State) : (s.setMissed n b).captures = s.captures := rfl
@[simp] theorem State.setMissed_missed (n : SectionNo) (b : Bool) (s : State) : (s.setMissed n b).missed = s.missed.set n b := rfl
@[simp] theorem State.setMissed_report (n : SectionNo) (b : Bool) (s : State) : (s.setMissed n b).report = s.report := rfl
@[simp] theorem State.setMissed_settings (n : SectionNo) (b : Bool) (s : State) : (s.setMissed n b).settings = s.settings := rfl
@[simp] theorem State.setMissed_mode (n : SectionNo) (b : Bool) (s : State) : (s.setMissed n b).mode = s.mode := rfl
@[simp] theorem State.setMissed_imageStatus (n : SectionNo) (b : Bool) (s : State) : (s.setMissed n b).imageStatus = s.imageStatus := rfl
@[simp] theorem State.setMissed_imageIdentity (n : SectionNo) (b : Bool) (s : State) : (s.setMissed n b).imageIdentity = s.imageIdentity := rfl
@[simp] theorem State.setMissed_boot (n : SectionNo) (b : Bool) (s : State) : (s.setMissed n b).boot = s.boot := rfl
@[simp] theorem State.setMissed_executing (n : SectionNo) (b : Bool) (s : State) : (s.setMissed n b).executing = s.executing := rfl
@[simp] theorem State.setMissed_lastResult (n : SectionNo) (b : Bool) (s : State) : (s.setMissed n b).lastResult = s.lastResult := rfl
@[simp] theorem State.setMissed_order (n : SectionNo) (b : Bool) (s : State) : (s.setMissed n b).order = s.order := rfl
@[simp] theorem State.setMissed_orderIndex (n : SectionNo) (b : Bool) (s : State) : (s.setMissed n b).orderIndex = s.orderIndex := rfl
@[simp] theorem State.setMissed_pending (n : SectionNo) (b : Bool) (s : State) : (s.setMissed n b).pending = s.pending := rfl

/-! ## State.setReport -/

@[simp] theorem State.setReport_pins (r : ReportUnit) (s : State) : (s.setReport r).pins = s.pins := rfl
@[simp] theorem State.setReport_port (r : ReportUnit) (s : State) : (s.setReport r).port = s.port := rfl
@[simp] theorem State.setReport_slots (r : ReportUnit) (s : State) : (s.setReport r).slots = s.slots := rfl
@[simp] theorem State.setReport_clock (r : ReportUnit) (s : State) : (s.setReport r).clock = s.clock := rfl
@[simp] theorem State.setReport_closureMark (r : ReportUnit) (s : State) : (s.setReport r).closureMark = s.closureMark := rfl
@[simp] theorem State.setReport_sections (r : ReportUnit) (s : State) : (s.setReport r).sections = s.sections := rfl
@[simp] theorem State.setReport_conds (r : ReportUnit) (s : State) : (s.setReport r).conds = s.conds := rfl
@[simp] theorem State.setReport_profiles (r : ReportUnit) (s : State) : (s.setReport r).profiles = s.profiles := rfl
@[simp] theorem State.setReport_hazard (r : ReportUnit) (s : State) : (s.setReport r).hazard = s.hazard := rfl
@[simp] theorem State.setReport_actions (r : ReportUnit) (s : State) : (s.setReport r).actions = s.actions := rfl
@[simp] theorem State.setReport_captures (r : ReportUnit) (s : State) : (s.setReport r).captures = s.captures := rfl
@[simp] theorem State.setReport_missed (r : ReportUnit) (s : State) : (s.setReport r).missed = s.missed := rfl
@[simp] theorem State.setReport_report (r : ReportUnit) (s : State) : (s.setReport r).report = r := rfl
@[simp] theorem State.setReport_settings (r : ReportUnit) (s : State) : (s.setReport r).settings = s.settings := rfl
@[simp] theorem State.setReport_mode (r : ReportUnit) (s : State) : (s.setReport r).mode = s.mode := rfl
@[simp] theorem State.setReport_imageStatus (r : ReportUnit) (s : State) : (s.setReport r).imageStatus = s.imageStatus := rfl
@[simp] theorem State.setReport_imageIdentity (r : ReportUnit) (s : State) : (s.setReport r).imageIdentity = s.imageIdentity := rfl
@[simp] theorem State.setReport_boot (r : ReportUnit) (s : State) : (s.setReport r).boot = s.boot := rfl
@[simp] theorem State.setReport_executing (r : ReportUnit) (s : State) : (s.setReport r).executing = s.executing := rfl
@[simp] theorem State.setReport_lastResult (r : ReportUnit) (s : State) : (s.setReport r).lastResult = s.lastResult := rfl
@[simp] theorem State.setReport_order (r : ReportUnit) (s : State) : (s.setReport r).order = s.order := rfl
@[simp] theorem State.setReport_orderIndex (r : ReportUnit) (s : State) : (s.setReport r).orderIndex = s.orderIndex := rfl
@[simp] theorem State.setReport_pending (r : ReportUnit) (s : State) : (s.setReport r).pending = s.pending := rfl

/-! ## State.mapRings -/

@[simp] theorem State.mapRings_pins (f : Vector (Option SlotRecord) 16 → Vector (Option SlotRecord) 16) (s : State) : (s.mapRings f).pins = s.pins := rfl
@[simp] theorem State.mapRings_port (f : Vector (Option SlotRecord) 16 → Vector (Option SlotRecord) 16) (s : State) : (s.mapRings f).port = s.port := rfl
@[simp] theorem State.mapRings_slots (f : Vector (Option SlotRecord) 16 → Vector (Option SlotRecord) 16) (s : State) : (s.mapRings f).slots = s.slots.map (fun x => { x with ring := f x.ring }) := rfl
@[simp] theorem State.mapRings_clock (f : Vector (Option SlotRecord) 16 → Vector (Option SlotRecord) 16) (s : State) : (s.mapRings f).clock = s.clock := rfl
@[simp] theorem State.mapRings_closureMark (f : Vector (Option SlotRecord) 16 → Vector (Option SlotRecord) 16) (s : State) : (s.mapRings f).closureMark = s.closureMark := rfl
@[simp] theorem State.mapRings_sections (f : Vector (Option SlotRecord) 16 → Vector (Option SlotRecord) 16) (s : State) : (s.mapRings f).sections = s.sections := rfl
@[simp] theorem State.mapRings_conds (f : Vector (Option SlotRecord) 16 → Vector (Option SlotRecord) 16) (s : State) : (s.mapRings f).conds = s.conds := rfl
@[simp] theorem State.mapRings_profiles (f : Vector (Option SlotRecord) 16 → Vector (Option SlotRecord) 16) (s : State) : (s.mapRings f).profiles = s.profiles := rfl
@[simp] theorem State.mapRings_hazard (f : Vector (Option SlotRecord) 16 → Vector (Option SlotRecord) 16) (s : State) : (s.mapRings f).hazard = s.hazard := rfl
@[simp] theorem State.mapRings_actions (f : Vector (Option SlotRecord) 16 → Vector (Option SlotRecord) 16) (s : State) : (s.mapRings f).actions = s.actions := rfl
@[simp] theorem State.mapRings_captures (f : Vector (Option SlotRecord) 16 → Vector (Option SlotRecord) 16) (s : State) : (s.mapRings f).captures = s.captures := rfl
@[simp] theorem State.mapRings_missed (f : Vector (Option SlotRecord) 16 → Vector (Option SlotRecord) 16) (s : State) : (s.mapRings f).missed = s.missed := rfl
@[simp] theorem State.mapRings_report (f : Vector (Option SlotRecord) 16 → Vector (Option SlotRecord) 16) (s : State) : (s.mapRings f).report = s.report := rfl
@[simp] theorem State.mapRings_settings (f : Vector (Option SlotRecord) 16 → Vector (Option SlotRecord) 16) (s : State) : (s.mapRings f).settings = s.settings := rfl
@[simp] theorem State.mapRings_mode (f : Vector (Option SlotRecord) 16 → Vector (Option SlotRecord) 16) (s : State) : (s.mapRings f).mode = s.mode := rfl
@[simp] theorem State.mapRings_imageStatus (f : Vector (Option SlotRecord) 16 → Vector (Option SlotRecord) 16) (s : State) : (s.mapRings f).imageStatus = s.imageStatus := rfl
@[simp] theorem State.mapRings_imageIdentity (f : Vector (Option SlotRecord) 16 → Vector (Option SlotRecord) 16) (s : State) : (s.mapRings f).imageIdentity = s.imageIdentity := rfl
@[simp] theorem State.mapRings_boot (f : Vector (Option SlotRecord) 16 → Vector (Option SlotRecord) 16) (s : State) : (s.mapRings f).boot = s.boot := rfl
@[simp] theorem State.mapRings_executing (f : Vector (Option SlotRecord) 16 → Vector (Option SlotRecord) 16) (s : State) : (s.mapRings f).executing = s.executing := rfl
@[simp] theorem State.mapRings_lastResult (f : Vector (Option SlotRecord) 16 → Vector (Option SlotRecord) 16) (s : State) : (s.mapRings f).lastResult = s.lastResult := rfl
@[simp] theorem State.mapRings_order (f : Vector (Option SlotRecord) 16 → Vector (Option SlotRecord) 16) (s : State) : (s.mapRings f).order = s.order := rfl
@[simp] theorem State.mapRings_orderIndex (f : Vector (Option SlotRecord) 16 → Vector (Option SlotRecord) 16) (s : State) : (s.mapRings f).orderIndex = s.orderIndex := rfl
@[simp] theorem State.mapRings_pending (f : Vector (Option SlotRecord) 16 → Vector (Option SlotRecord) 16) (s : State) : (s.mapRings f).pending = s.pending := rfl

/-! ## queueReport: only the report unit moves -/

@[simp] theorem queueReport_pins (o : Originator) (d : Detail) (s : State) : (queueReport o d s).pins = s.pins := rfl
@[simp] theorem queueReport_port (o : Originator) (d : Detail) (s : State) : (queueReport o d s).port = s.port := rfl
@[simp] theorem queueReport_slots (o : Originator) (d : Detail) (s : State) : (queueReport o d s).slots = s.slots := rfl
@[simp] theorem queueReport_clock (o : Originator) (d : Detail) (s : State) : (queueReport o d s).clock = s.clock := rfl
@[simp] theorem queueReport_closureMark (o : Originator) (d : Detail) (s : State) : (queueReport o d s).closureMark = s.closureMark := rfl
@[simp] theorem queueReport_sections (o : Originator) (d : Detail) (s : State) : (queueReport o d s).sections = s.sections := rfl
@[simp] theorem queueReport_conds (o : Originator) (d : Detail) (s : State) : (queueReport o d s).conds = s.conds := rfl
@[simp] theorem queueReport_profiles (o : Originator) (d : Detail) (s : State) : (queueReport o d s).profiles = s.profiles := rfl
@[simp] theorem queueReport_hazard (o : Originator) (d : Detail) (s : State) : (queueReport o d s).hazard = s.hazard := rfl
@[simp] theorem queueReport_actions (o : Originator) (d : Detail) (s : State) : (queueReport o d s).actions = s.actions := rfl
@[simp] theorem queueReport_captures (o : Originator) (d : Detail) (s : State) : (queueReport o d s).captures = s.captures := rfl
@[simp] theorem queueReport_missed (o : Originator) (d : Detail) (s : State) : (queueReport o d s).missed = s.missed := rfl
@[simp] theorem queueReport_report (o : Originator) (d : Detail) (s : State) : (queueReport o d s).report =
    s.report.hand { origin := o, epoch := recordEpoch s, detail := d } := rfl
@[simp] theorem queueReport_settings (o : Originator) (d : Detail) (s : State) : (queueReport o d s).settings = s.settings := rfl
@[simp] theorem queueReport_mode (o : Originator) (d : Detail) (s : State) : (queueReport o d s).mode = s.mode := rfl
@[simp] theorem queueReport_imageStatus (o : Originator) (d : Detail) (s : State) : (queueReport o d s).imageStatus = s.imageStatus := rfl
@[simp] theorem queueReport_imageIdentity (o : Originator) (d : Detail) (s : State) : (queueReport o d s).imageIdentity = s.imageIdentity := rfl
@[simp] theorem queueReport_boot (o : Originator) (d : Detail) (s : State) : (queueReport o d s).boot = s.boot := rfl
@[simp] theorem queueReport_executing (o : Originator) (d : Detail) (s : State) : (queueReport o d s).executing = s.executing := rfl
@[simp] theorem queueReport_lastResult (o : Originator) (d : Detail) (s : State) : (queueReport o d s).lastResult = s.lastResult := rfl
@[simp] theorem queueReport_order (o : Originator) (d : Detail) (s : State) : (queueReport o d s).order = s.order := rfl
@[simp] theorem queueReport_orderIndex (o : Originator) (d : Detail) (s : State) : (queueReport o d s).orderIndex = s.orderIndex := rfl
@[simp] theorem queueReport_pending (o : Originator) (d : Detail) (s : State) : (queueReport o d s).pending = s.pending := rfl

/-! ## nextOrder: only the choices move -/

@[simp] theorem nextOrder_pins (s : State) : (nextOrder s).2.pins = s.pins := by
  unfold nextOrder; split <;> rfl
@[simp] theorem nextOrder_port (s : State) : (nextOrder s).2.port = s.port := by
  unfold nextOrder; split <;> rfl
@[simp] theorem nextOrder_slots (s : State) : (nextOrder s).2.slots = s.slots := by
  unfold nextOrder; split <;> rfl
@[simp] theorem nextOrder_clock (s : State) : (nextOrder s).2.clock = s.clock := by
  unfold nextOrder; split <;> rfl
@[simp] theorem nextOrder_closureMark (s : State) : (nextOrder s).2.closureMark = s.closureMark := by
  unfold nextOrder; split <;> rfl
@[simp] theorem nextOrder_sections (s : State) : (nextOrder s).2.sections = s.sections := by
  unfold nextOrder; split <;> rfl
@[simp] theorem nextOrder_conds (s : State) : (nextOrder s).2.conds = s.conds := by
  unfold nextOrder; split <;> rfl
@[simp] theorem nextOrder_profiles (s : State) : (nextOrder s).2.profiles = s.profiles := by
  unfold nextOrder; split <;> rfl
@[simp] theorem nextOrder_hazard (s : State) : (nextOrder s).2.hazard = s.hazard := by
  unfold nextOrder; split <;> rfl
@[simp] theorem nextOrder_actions (s : State) : (nextOrder s).2.actions = s.actions := by
  unfold nextOrder; split <;> rfl
@[simp] theorem nextOrder_captures (s : State) : (nextOrder s).2.captures = s.captures := by
  unfold nextOrder; split <;> rfl
@[simp] theorem nextOrder_missed (s : State) : (nextOrder s).2.missed = s.missed := by
  unfold nextOrder; split <;> rfl
@[simp] theorem nextOrder_report (s : State) : (nextOrder s).2.report = s.report := by
  unfold nextOrder; split <;> rfl
@[simp] theorem nextOrder_settings (s : State) : (nextOrder s).2.settings = s.settings := by
  unfold nextOrder; split <;> rfl
@[simp] theorem nextOrder_mode (s : State) : (nextOrder s).2.mode = s.mode := by
  unfold nextOrder; split <;> rfl
@[simp] theorem nextOrder_imageStatus (s : State) : (nextOrder s).2.imageStatus = s.imageStatus := by
  unfold nextOrder; split <;> rfl
@[simp] theorem nextOrder_imageIdentity (s : State) : (nextOrder s).2.imageIdentity = s.imageIdentity := by
  unfold nextOrder; split <;> rfl
@[simp] theorem nextOrder_boot (s : State) : (nextOrder s).2.boot = s.boot := by
  unfold nextOrder; split <;> rfl
@[simp] theorem nextOrder_executing (s : State) : (nextOrder s).2.executing = s.executing := by
  unfold nextOrder; split <;> rfl
@[simp] theorem nextOrder_lastResult (s : State) : (nextOrder s).2.lastResult = s.lastResult := by
  unfold nextOrder; split <;> rfl
@[simp] theorem nextOrder_pending (s : State) : (nextOrder s).2.pending = s.pending := by
  unfold nextOrder; split <;> rfl

/-! ## Reading one numbered thing after an update -/

theorem State.modSlot_get (m j : SlotNo) (f : SlotState → SlotState) (s : State) :
    (s.modSlot m f).slots[j] = if j = m then f s.slots[m] else s.slots[j] := by
  by_cases h : j = m
  · subst h; simp
  · have h' : (m : Nat) ≠ j := fun e => h (Fin.ext e.symm)
    simp [h, h']

theorem State.modSection_get (n j : SectionNo) (f : SectionState → SectionState) (s : State) :
    (s.modSection n f).sections[j] = if j = n then f s.sections[n] else s.sections[j] := by
  by_cases h : j = n
  · subst h; simp
  · have h' : (n : Nat) ≠ j := fun e => h (Fin.ext e.symm)
    simp [h, h']

theorem State.modConds_get (n j : SectionNo) (f : ConditionSet → ConditionSet) (s : State) :
    (s.modConds n f).conds[j] = if j = n then f s.conds[n] else s.conds[j] := by
  by_cases h : j = n
  · subst h; simp
  · have h' : (n : Nat) ≠ j := fun e => h (Fin.ext e.symm)
    simp [h, h']

theorem State.modProfile_get (p j : ProfileNo) (f : ProfileEntry → ProfileEntry) (s : State) :
    (s.modProfile p f).profiles[j] = if j = p then f s.profiles[p] else s.profiles[j] := by
  by_cases h : j = p
  · subst h; simp
  · have h' : (p : Nat) ≠ j := fun e => h (Fin.ext e.symm)
    simp [h, h']

theorem State.modAction_get (n j : SectionNo) (f : ActionRecord → ActionRecord) (s : State) :
    (s.modAction n f).actions[j] = if j = n then f s.actions[n] else s.actions[j] := by
  by_cases h : j = n
  · subst h; simp
  · have h' : (n : Nat) ≠ j := fun e => h (Fin.ext e.symm)
    simp [h, h']

theorem State.setCapture_get (i j : CaptureNo) (b : Capture) (s : State) :
    (s.setCapture i b).captures[j] = if j = i then b else s.captures[j] := by
  by_cases h : j = i
  · subst h; simp
  · have h' : (i : Nat) ≠ j := fun e => h (Fin.ext e.symm)
    simp [h, h']

theorem State.setMissed_get (n j : SectionNo) (b : Bool) (s : State) :
    (s.setMissed n b).missed[j] = if j = n then b else s.missed[j] := by
  by_cases h : j = n
  · subst h; simp
  · have h' : (n : Nat) ≠ j := fun e => h (Fin.ext e.symm)
    simp [h, h']

end Sys2Proof.Machine
end

