-- ==== Sys2Proof/Laws/Ops.lean ====
section
/-! SUPPORT. What the shared operations can do, said once for each: folds, choices of an order, handing a record to the
report unit, the work of a frame or a tick, and the small list operations of the blocks. -/

namespace Sys2Proof.Machine

/-! ## Folds -/

/-- What every single application keeps, a fold keeps. -/
theorem foldl_keeps {α : Type} {P : State → Prop} {f : State → α → State} (keep : ∀ s a, P s → P (f s a))
    (l : List α) (s : State) (h : P s) : P (l.foldl f s) := by
  induction l generalizing s with
  | nil => exact h
  | cons a l ih => exact ih (f s a) (keep s a h)

/-- The same, where the application is only known to keep it for members of the list. -/
theorem foldl_keeps_mem {α : Type} {P : State → Prop} {f : State → α → State} (l : List α)
    (keep : ∀ s, ∀ a ∈ l, P s → P (f s a)) (s : State) (h : P s) : P (l.foldl f s) := by
  induction l generalizing s with
  | nil => exact h
  | cons a l ih =>
    exact ih (fun s b hb => keep s b (List.mem_cons_of_mem a hb)) (f s a) (keep s a List.mem_cons_self h)

/-- A reading that no application changes, the fold does not change. -/
theorem foldl_reads {α β : Type} {g : State → β} {f : State → α → State} (same : ∀ s a, g (f s a) = g s) (l : List α)
    (s : State) : g (l.foldl f s) = g s :=
  foldl_keeps (P := fun t => g t = g s) (fun t a ht => (same t a).trans ht) l s rfl

/-! ## Choices of an order -/

/-- Every element of an interleaving stands in one of its threads. -/
theorem mem_interleaveUpTo {α : Type} {x : α} (fuel : Nat) : ∀ (code : Nat) (threads : List (List α)),
    x ∈ interleaveUpTo fuel code threads → ∃ t ∈ threads, x ∈ t := by
  induction fuel with
  | zero => intro code threads h; simp [interleaveUpTo] at h
  | succ fuel ih =>
    intro code threads h
    unfold interleaveUpTo at h
    split at h
    · simp at h
    · rename_i t ht
      exact ⟨t, (List.mem_filter.mp (by rw [ht]; exact List.mem_singleton_self t)).1, h⟩
    · rename_i live hne hne'
      split at h
      · rename_i y rest hy
        have hmem : (y :: rest) ∈ threads.filter (fun t => !t.isEmpty) := List.mem_of_getElem? hy
        rcases List.mem_cons.mp h with rfl | h
        · exact ⟨_, (List.mem_filter.mp hmem).1, List.mem_cons_self⟩
        · obtain ⟨t, ht, hx⟩ := ih _ _ h
          rcases List.mem_or_eq_of_mem_set ht with ht | rfl
          · exact ⟨t, (List.mem_filter.mp ht).1, hx⟩
          · exact ⟨_, (List.mem_filter.mp hmem).1, List.mem_cons_of_mem _ hx⟩
      · simp at h

theorem mem_interleave {α : Type} {x : α} {code : Nat} {threads : List (List α)} (h : x ∈ interleave code threads) :
    ∃ t ∈ threads, x ∈ t := mem_interleaveUpTo _ code threads h

theorem mem_arrange {α : Type} {x : α} {code : Nat} {l : List α} (h : x ∈ arrange code l) : x ∈ l := by
  obtain ⟨t, ht, hx⟩ := mem_interleave h
  obtain ⟨y, hy, rfl⟩ := List.mem_map.mp ht
  simpa using (List.mem_singleton.mp hx) ▸ hy

/-- One choice of an order moves nothing but the choices themselves. -/
theorem nextOrder_cases (s : State) :
    (∃ code rest, s.order = code :: rest ∧ nextOrder s = (code, { s with order := rest })) ∨
    (s.order = [] ∧ nextOrder s = (Config.freeOrder s.orderIndex, { s with orderIndex := s.orderIndex + 1 })) := by
  unfold nextOrder
  split
  · rename_i code rest h; exact .inl ⟨code, rest, h, rfl⟩
  · rename_i h; exact .inr ⟨h, rfl⟩

/-! ## A change of the hazard level within an event (R111) -/

/-- With no SET_HAZARD waiting, no change of level falls. -/
theorem hazardMoment_calm (s : State) (h : hazardWaiting s = none) : hazardMoment s = s := by
  unfold hazardMoment; rw [h]

/-- What a moment can do: nothing, or one choice of order, after which a waiting SET_HAZARD is taken or waits on. -/
theorem hazardMoment_cases (s : State) :
    (hazardWaiting s = none ∧ hazardMoment s = s) ∨
    ∃ level e, hazardWaiting s = some (level, e) ∧
      (hazardMoment s = (nextOrder s).2 ∨ hazardMoment s = takeHazard level e (nextOrder s).2) := by
  unfold hazardMoment
  split
  · rename_i h; exact .inl ⟨h, rfl⟩
  · rename_i level e h
    refine .inr ⟨level, e, h, ?_⟩
    dsimp only; split
    · exact .inr rfl
    · exact .inl rfl

/-- SET_HAZARD changes nothing, or takes a level and reports it (R119). -/
theorem requestSetHazard_cases (level : Byte) (s : State) :
    (∃ code, requestSetHazard level s = (s, (code, []))) ∨
    ∃ new, requestSetHazard level s =
      (queueReport .device (.hazardChange s.hazard new) { s with hazard := new }, (.ok, [])) := by
  unfold requestSetHazard answer
  split
  · exact .inl ⟨_, rfl⟩
  · dsimp only
    generalize (if level = 1 then Hazard.elevated else Hazard.normal) = new
    split
    · exact .inl ⟨_, rfl⟩
    · exact .inr ⟨_, rfl⟩

/-- The request taken at a moment, and what it comes to. -/
theorem takeHazard_executing (level : Byte) (e : MgmtExec) (s : State) :
    (takeHazard level e s).executing =
      some (e.result setHazardCode (requestSetHazard level s).2.1 (requestSetHazard level s).2.2) := rfl

/-- An execution that has come to SET_HAZARD, and the same with the request taken off. -/
theorem hazardWaiting_cases {s : State} {level : Byte} {e : MgmtExec} (h : hazardWaiting s = some (level, e)) :
    ∃ f q rest, s.executing = some f ∧ f.writing = none ∧ f.todo = q :: rest ∧ q.code = setHazardCode ∧
      q.params = [level] ∧ f.mode ≠ .starting ∧ e = { f with todo := rest } := by
  unfold hazardWaiting at h
  cases hx : s.executing with
  | none => rw [hx] at h; cases h
  | some f =>
    rw [hx] at h
    simp only [Option.bind_some] at h
    unfold MgmtExec.hazardNext at h
    split at h
    · rename_i q rest hw ht
      split at h
      · rename_i l hp
        split at h
        · rename_i hc
          cases h
          exact ⟨f, q, rest, rfl, hw, ht, hc.1, hp, hc.2, rfl⟩
        · cases h
      · cases h
    · cases h

/-! ## The work of an event -/

/-- What every piece of work keeps, the choices do not read, and a change of the hazard level keeps where a piece reads
the level, work done in any interleaving keeps. -/
theorem runWork_keeps {P : State → Prop} (threads : List (List Work)) (order : ∀ s, P s → P (nextOrder s).2)
    (moment : (∃ t ∈ threads, ∃ w ∈ t, w.readsHazard = true) → ∀ s, P s → P (hazardMoment s))
    (keep : ∀ s, ∀ t ∈ threads, ∀ w ∈ t, P s → P (doWork s w)) (s : State) (h : P s) : P (runWork threads s) := by
  unfold runWork
  refine foldl_keeps_mem _ (fun s w hw hs => ?_) _ (order s h)
  obtain ⟨t, ht, hwt⟩ := mem_interleave hw
  unfold doWorkAmong
  refine keep _ t ht w hwt ?_
  split
  · rename_i hr; exact moment ⟨t, ht, w, hwt, hr⟩ s hs
  · exact hs

/-! ## The report unit (R173) -/

/-- A record handed over joins a queue with room, or sets the mark of its originator. -/
theorem hand_cases (x : ReportRecord) (r : ReportUnit) :
    (r.queue.length < 64 ∧ (r.hand x).queue = r.queue ++ [x] ∧ (r.hand x).owed = r.owed) ∨
    (64 ≤ r.queue.length ∧ (r.hand x).queue = r.queue ∧ r.hand x = r.setOwed x.origin) := by
  unfold ReportUnit.hand
  by_cases h : r.queue.length < Config.reportCapacity
  · exact .inl ⟨h, by simp [h], by simp only [h, if_true]; funext o; cases o <;> rfl⟩
  · refine .inr ⟨Nat.le_of_not_lt h, ?_, by simp [h]⟩
    simp only [h, if_false]
    cases x.origin <;> rfl

/-- The marks after one is set: that one and those set before. -/
theorem setOwed_owed (o p : Originator) (r : ReportUnit) : (r.setOwed o).owed p = (decide (p = o) || r.owed p) := by
  cases o <;> cases p <;> simp [ReportUnit.setOwed, ReportUnit.owed, Vector.getElem_set]
  all_goals
    rename_i a b
    by_cases h : b = a
    · subst h; simp
    · have h' : (a : Nat) ≠ b := fun e => h (Fin.ext e.symm)
      simp [h, h']

/-- The marks after one is cleared. -/
theorem clearOwed_owed (o p : Originator) (r : ReportUnit) : (r.clearOwed o).owed p = (!decide (p = o) && r.owed p) := by
  cases o <;> cases p <;> simp [ReportUnit.clearOwed, ReportUnit.owed, Vector.getElem_set]
  all_goals
    rename_i a b
    by_cases h : b = a
    · subst h; simp
    · have h' : (a : Nat) ≠ b := fun e => h (Fin.ext e.symm)
      simp [h, h']

/-- The queue does not depend on the marks. -/
@[simp] theorem setOwed_queue (o : Originator) (r : ReportUnit) : (r.setOwed o).queue = r.queue := by cases o <;> rfl
@[simp] theorem clearOwed_queue (o : Originator) (r : ReportUnit) : (r.clearOwed o).queue = r.queue := by
  cases o <;> rfl

/-- Every originator stands in the walk of R175. -/
theorem mem_allOriginators (o : Originator) : o ∈ allOriginators := by
  cases o <;> simp [allOriginators, allSections, allSlots]

/-! ## Commands -/

/-- A command taken only while RESET_N is high answers a next state always. -/
theorem whenRunning_next (f : State → State) (s : State) (h : Running s) : whenRunning f s = .next (f s) := by
  have hr : resetLow s = false := by unfold resetLow; exact decide_eq_false h
  simp only [whenRunning, hr, Bool.false_eq_true, if_false]

theorem whenRunning_low (f : State → State) (s : State) (h : s.boot = .resetLow) : whenRunning f s = .next s := by
  have hr : resetLow s = true := by unfold resetLow; exact decide_eq_true h
  simp only [whenRunning, hr, if_true]

/-- A request of its own while the part serves: its answer is kept and nothing else is added to it. -/
theorem runAlone_serving (code : Byte) (f : State → Answer) (s : State) (h : Serving s) :
    runAlone code f s = (f s).1.answered code (f s).2.1 (f s).2.2 := by
  have hf : finishExecution s = s := by unfold finishExecution; rw [h.2.2]
  have hm : s.mode ≠ .starting := h.2.1
  simp [runAlone, hf, hm, State.answered]

/-- A request of its own in STARTING changes nothing. -/
theorem runAlone_starting (code : Byte) (f : State → Answer) (s : State) (hm : s.mode = .starting)
    (he : s.executing = none) :
    runAlone code f s = s.answered code .notReady (refusalData code) := by
  have hf : finishExecution s = s := by unfold finishExecution; rw [he]
  simp [runAlone, hf, hm, State.answered]

/-! ## Lists of the blocks -/

theorem joinQueue_length {α : Type} (cap : Nat) (x : α) (q : List α) (h : q.length ≤ cap) :
    (joinQueue cap x q).length ≤ cap := by
  unfold joinQueue; split
  · simp; omega
  · exact h

theorem pushHistory_length (r : EvalRecord) (h : List EvalRecord) : (pushHistory r h).length ≤ 8 := by
  unfold pushHistory
  by_cases hl : Config.historyCapacity ≤ h.length
  · rw [if_pos hl]; simp [Config.historyCapacity] at hl ⊢; omega
  · rw [if_neg hl]; simp [Config.historyCapacity] at hl ⊢; omega

theorem trimWindow_length (len : Nat) (w : List OutcomeAt) : (trimWindow len w).length ≤ len := by
  unfold trimWindow; simp; omega

theorem appendOutcome_length (len : Nat) (o : OutcomeAt) (w : List OutcomeAt) : (appendOutcome len o w).length ≤ len :=
  trimWindow_length len _

theorem saturatingSucc_le (k : Nat) : saturatingSucc k ≤ 255 := Nat.min_le_left _ _

theorem moveOpenCount_le (holds : Bool) (k : Nat) : moveOpenCount holds k ≤ 255 := by
  unfold moveOpenCount; split
  · exact saturatingSucc_le k
  · omega

theorem saturate_bounds (x : Int) : -32767 ≤ saturate x ∧ saturate x ≤ 32767 := by unfold saturate; omega

/-- An origin list after a joining: the old one, with sections of the set at its end. -/
theorem joinOrigins_prefix (b : SectionNo) (group l : List SectionNo) : l <+: joinOrigins b group l := by
  unfold joinOrigins
  induction group generalizing l with
  | nil => exact List.prefix_refl l
  | cons x group ih =>
    simp only [List.foldl_cons]
    split
    · exact ih l
    · exact (List.prefix_append l [x]).trans (ih (l ++ [x]))

theorem mem_joinOrigins (b x : SectionNo) (group l : List SectionNo) :
    x ∈ joinOrigins b group l ↔ x ∈ l ∨ (x ∈ group ∧ x ≠ b) := by
  unfold joinOrigins
  induction group generalizing l with
  | nil => simp
  | cons y group ih =>
    simp only [List.foldl_cons]
    rw [ih]
    by_cases hy : y = b ∨ y ∈ l
    · simp only [hy, if_true, List.mem_cons]
      constructor
      · rintro (h | h)
        · exact .inl h
        · exact .inr ⟨.inr h.1, h.2⟩
      · rintro (h | ⟨rfl | h, hb⟩)
        · exact .inl h
        · rcases hy with rfl | h
          · exact absurd rfl hb
          · exact .inl h
        · exact .inr ⟨h, hb⟩
    · have hy' : y ≠ b := fun e => hy (.inl e)
      rw [if_neg hy, List.mem_append, List.mem_singleton, List.mem_cons]
      constructor
      · rintro ((h | rfl) | h)
        · exact .inl h
        · exact .inr ⟨.inl rfl, hy'⟩
        · exact .inr ⟨.inr h.1, h.2⟩
      · rintro (h | ⟨rfl | h, hb⟩)
        · exact .inl (.inl h)
        · exact .inl (.inr rfl)
        · exact .inr ⟨h, hb⟩

end Sys2Proof.Machine
end

