-- ==== Sys2Proof/Laws/Frames.lean ====
section
/-! SUPPORT. What the operations of the blocks leave as it stands: one lemma for each shared operation of the sections,
conditions, actions and captures, and one for each piece of the work of a frame or a tick. -/

namespace Sys2Proof.Machine

/-! ## Two frames -/

/-- `t` differs from `s` at most in the sections, the condition sets, the action records, the captures with their marks,
and the report unit. -/
def Inner (s t : State) : Prop :=
  t = { s with sections := t.sections, conds := t.conds, actions := t.actions, captures := t.captures
               missed := t.missed, report := t.report }

/-- `t` differs from `s` at most in what a frame's or a tick's work can move: the fields of `Inner`, the slots, the
closure mark, the action list, the choices of order, and the hazard level with the frame under execution, whose
SET_HAZARD may fall within the work (R111). -/
def Worked (s t : State) : Prop :=
  t = { s with sections := t.sections, conds := t.conds, actions := t.actions, captures := t.captures
               missed := t.missed, report := t.report, slots := t.slots, closureMark := t.closureMark
               port := { s.port with actionList := t.port.actionList }, order := t.order, orderIndex := t.orderIndex
               hazard := t.hazard, executing := t.executing }

/-- `t` differs from `s` at most in the fields of `Inner` and the choices of order. -/
def Handed (s t : State) : Prop :=
  t = { s with sections := t.sections, conds := t.conds, actions := t.actions, captures := t.captures
               missed := t.missed, report := t.report, order := t.order, orderIndex := t.orderIndex }

/-- `t` differs from `s` at most in the fields of `Handed`, and in the hazard level with the frame under execution,
whose SET_HAZARD may fall before a piece of work (R111). -/
def Evaluated (s t : State) : Prop :=
  t = { s with sections := t.sections, conds := t.conds, actions := t.actions, captures := t.captures
               missed := t.missed, report := t.report, order := t.order, orderIndex := t.orderIndex
               hazard := t.hazard, executing := t.executing }

theorem Inner.refl (s : State) : Inner s s := rfl

theorem Inner.trans {s t u : State} (h : Inner s t) (k : Inner t u) : Inner s u := by
  unfold Inner at *; rw [k, h]

theorem Worked.refl (s : State) : Worked s s := rfl

theorem Worked.trans {s t u : State} (h : Worked s t) (k : Worked t u) : Worked s u := by
  unfold Worked at *; rw [k, h]

theorem Handed.refl (s : State) : Handed s s := rfl

theorem Handed.trans {s t u : State} (h : Handed s t) (k : Handed t u) : Handed s u := by
  unfold Handed at *; rw [k, h]

theorem Inner.handed {s t : State} (h : Inner s t) : Handed s t := by
  unfold Inner Handed at *; rw [h]

theorem Handed.slots {s t : State} (h : Handed s t) : t.slots = s.slots := by rw [h]
theorem Handed.clock {s t : State} (h : Handed s t) : t.clock = s.clock := by rw [h]
theorem Handed.port {s t : State} (h : Handed s t) : t.port = s.port := by rw [h]
theorem Handed.hazard {s t : State} (h : Handed s t) : t.hazard = s.hazard := by rw [h]
theorem Handed.executing {s t : State} (h : Handed s t) : t.executing = s.executing := by rw [h]
theorem Handed.settings {s t : State} (h : Handed s t) : t.settings = s.settings := by rw [h]
theorem Handed.profiles {s t : State} (h : Handed s t) : t.profiles = s.profiles := by rw [h]
theorem Handed.mode {s t : State} (h : Handed s t) : t.mode = s.mode := by rw [h]

theorem Evaluated.refl (s : State) : Evaluated s s := rfl

theorem Evaluated.trans {s t u : State} (h : Evaluated s t) (k : Evaluated t u) : Evaluated s u := by
  unfold Evaluated at *; rw [k, h]

theorem Handed.evaluated {s t : State} (h : Handed s t) : Evaluated s t := by
  unfold Handed Evaluated at *; rw [h]

theorem Evaluated.worked {s t : State} (h : Evaluated s t) : Worked s t := by
  unfold Evaluated Worked at *; rw [h]

theorem Evaluated.slots {s t : State} (h : Evaluated s t) : t.slots = s.slots := by rw [h]
theorem Evaluated.clock {s t : State} (h : Evaluated s t) : t.clock = s.clock := by rw [h]
theorem Evaluated.port {s t : State} (h : Evaluated s t) : t.port = s.port := by rw [h]
theorem Evaluated.settings {s t : State} (h : Evaluated s t) : t.settings = s.settings := by rw [h]
theorem Evaluated.profiles {s t : State} (h : Evaluated s t) : t.profiles = s.profiles := by rw [h]
theorem Evaluated.mode {s t : State} (h : Evaluated s t) : t.mode = s.mode := by rw [h]

/-- With no SET_HAZARD waiting none waits after an operation that leaves the frame under execution as it is. -/
theorem Inner.waiting {s t : State} (h : Inner s t) : hazardWaiting t = hazardWaiting s := by
  unfold hazardWaiting; rw [h]

theorem Handed.waiting {s t : State} (h : Handed s t) : hazardWaiting t = hazardWaiting s := by
  unfold hazardWaiting; rw [h]

theorem Inner.worked {s t : State} (h : Inner s t) : Worked s t := by
  unfold Inner Worked at *; rw [h]

theorem inner_foldl {α : Type} {f : State → α → State} (step : ∀ s a, Inner s (f s a)) (l : List α) (s : State) :
    Inner s (l.foldl f s) :=
  foldl_keeps (P := Inner s) (fun t a h => h.trans (step t a)) l s (Inner.refl s)

theorem worked_foldl {α : Type} {f : State → α → State} (step : ∀ s a, Worked s (f s a)) (l : List α) (s : State) :
    Worked s (l.foldl f s) :=
  foldl_keeps (P := Worked s) (fun t a h => h.trans (step t a)) l s (Worked.refl s)

/-! ## Reports and updates -/

theorem queueReport_inner (o : Originator) (d : Detail) (s : State) : Inner s (queueReport o d s) := rfl
theorem modSection_inner (n : SectionNo) (f : SectionState → SectionState) (s : State) : Inner s (s.modSection n f) := rfl
theorem modConds_inner (n : SectionNo) (f : ConditionSet → ConditionSet) (s : State) : Inner s (s.modConds n f) := rfl
theorem modAction_inner (n : SectionNo) (f : ActionRecord → ActionRecord) (s : State) : Inner s (s.modAction n f) := rfl
theorem setCapture_inner (i : CaptureNo) (b : Capture) (s : State) : Inner s (s.setCapture i b) := rfl
theorem setMissed_inner (n : SectionNo) (b : Bool) (s : State) : Inner s (s.setMissed n b) := rfl

/-! ## Captures -/

theorem freezeCapture_inner (i : CaptureNo) (b : Capture) (short : Bool) (s : State) :
    Inner s (freezeCapture i b short s) := rfl

theorem captureAdd_inner (n : SectionNo) (r : EvalRecord) (s : State) : Inner s (captureAdd n r s) := by
  unfold captureAdd; split
  · exact Inner.refl s
  · dsimp only; split <;> rfl

theorem capturePickup_inner (n : SectionNo) (k : Trigger) (p : ProfileNo) (h : List EvalRecord) (r : EvalRecord)
    (s : State) : Inner s (capturePickup n k p h r s) := by
  unfold capturePickup; split
  · exact Inner.refl s
  · split <;> rfl

theorem captureHandOver_inner (n : SectionNo) (r : EvalRecord) (k : Option Trigger) (p : ProfileNo)
    (h : List EvalRecord) (s : State) : Inner s (captureHandOver n r k p h s) := by
  unfold captureHandOver; split
  · exact captureAdd_inner n r s
  · exact (captureAdd_inner n r s).trans (capturePickup_inner ..)

theorem freezeShort_inner (n : SectionNo) (s : State) : Inner s (freezeShort n s) := by
  unfold freezeShort; split <;> rfl

/-! ## Actions and conditions -/

theorem reportHeld_inner (n : SectionNo) (s : State) : Inner s (reportHeld n s) := by
  unfold reportHeld; split <;> rfl

theorem createAction_inner (n : SectionNo) (c : Cause) (s : State) : Inner s (createAction n c s) := by
  unfold createAction; split
  · exact Inner.refl s
  · split
    · exact (modAction_inner n _ s).trans (reportHeld_inner n _)
    · exact Inner.refl s

theorem releaseHeld_inner (n : SectionNo) (s : State) : Inner s (releaseHeld n s) := by
  unfold releaseHeld; split <;> rfl

theorem releaseAllHeld_inner (s : State) : Inner s (releaseAllHeld s) :=
  inner_foldl (fun s n => releaseHeld_inner n s) allSections s

theorem retireAction_inner (n : SectionNo) (s : State) : Inner s (retireAction n s) := rfl

theorem dropAction_inner (n : SectionNo) (why : DropReason) (s : State) : Inner s (dropAction n why s) := rfl

theorem tellLiveCleared_inner (n : SectionNo) (k : Kind) (why : DropReason) (s : State) :
    Inner s (tellLiveCleared n k why s) := by unfold tellLiveCleared; split <;> rfl

theorem tellLatchedCleared_inner (n : SectionNo) (why : DropReason) (s : State) (k : Kind) :
    Inner s (tellLatchedCleared n why s k) := by unfold tellLatchedCleared; split <;> rfl

theorem reportRaised_inner (n : SectionNo) (k : Kind) (ph : PhaseSet) (r : Raised) (s : State) :
    Inner s (reportRaised n k ph r s) := by unfold reportRaised; split <;> rfl

theorem askAction_inner (n : SectionNo) (k : Kind) (r : Raised) (s : State) : Inner s (askAction n k r s) := by
  unfold askAction; split
  · exact createAction_inner n _ s
  · exact Inner.refl s

theorem raiseKind_inner (n : SectionNo) (k : Kind) (ph : PhaseSet) (p : ProfileNo) (s : State) :
    Inner s (raiseKind n k ph p s) := by
  unfold raiseKind; split
  · exact ((modConds_inner n _ s).trans (reportRaised_inner ..)).trans (askAction_inner ..)
  · exact Inner.refl s

theorem confirmKind_inner (n : SectionNo) (k : Kind) (ph : PhaseSet) (p : ProfileNo) (s : State) :
    Inner s (confirmKind n k ph p s) := by
  unfold confirmKind; split
  · split
    · exact raiseKind_inner n k ph p s
    · dsimp only; split <;> rfl
  · exact Inner.refl s

theorem clearKind_inner (n : SectionNo) (c : ClearCause) (s : State) (k : Kind) : Inner s (clearKind n c s k) := by
  unfold clearKind; split
  · exact Inner.refl s
  · dsimp only; split <;> rfl

theorem clearLive_inner (n : SectionNo) (c : ClearCause) (why : DropReason) (s : State) (k : Kind) :
    Inner s (clearLive n c why s k) := by
  unfold clearLive; split
  · exact (clearKind_inner n c s k).trans (tellLiveCleared_inner ..)
  · exact Inner.refl s

/-! ## Sections -/

theorem moveSection_inner (n : SectionNo) (m : SectionMode) (c : SectionCause) (s : State) :
    Inner s (moveSection n m c s) := rfl

theorem leaveService_inner (n : SectionNo) (why : DropReason) (s : State) : Inner s (leaveService n why s) :=
  (inner_foldl (fun s k => clearLive_inner n .leftService why s k) liveKinds s).trans (freezeShort_inner n _)

theorem leaveTo_inner (n : SectionNo) (m : SectionMode) (c : SectionCause) (s : State) :
    Inner s (leaveTo n m c s) := by
  unfold leaveTo
  refine Inner.trans ?_ (moveSection_inner n m c _)
  split
  · exact leaveService_inner n _ s
  · exact Inner.refl s

theorem sectionOnOpen_inner (n : SectionNo) (s : State) : Inner s (sectionOnOpen n s) := by
  unfold sectionOnOpen; split
  · exact leaveTo_inner n _ _ s
  · exact Inner.refl s

theorem latchNotice_inner (n : SectionNo) (s : State) : Inner s (latchNotice n s) := by
  unfold latchNotice; split
  · exact leaveTo_inner n _ _ s
  · exact Inner.refl s

theorem sectionOnClosed_inner (n : SectionNo) (s : State) : Inner s (sectionOnClosed n s) := by
  unfold sectionOnClosed; split <;> rfl

theorem endHoldoff_inner (n : SectionNo) (s : State) : Inner s (endHoldoff n s) := by
  unfold endHoldoff; split <;> rfl

theorem lowerHoldoff_inner (n : SectionNo) (s : State) : Inner s (lowerHoldoff n s) :=
  (modSection_inner n _ s).trans (endHoldoff_inner n _)

theorem retireAtArming_inner (n : SectionNo) (s : State) : Inner s (retireAtArming n s) := by
  unfold retireAtArming; split <;> rfl

theorem armSection_inner (n : SectionNo) (s : State) : Inner s (armSection n s) := by
  unfold armSection
  exact (((modSection_inner n _ s).trans (retireAtArming_inner n _)).trans (moveSection_inner n _ _ _)).trans
    (endHoldoff_inner n _)

theorem armingTest_inner (n : SectionNo) (s : State) : Inner s (armingTest n s) := by
  unfold armingTest; split
  · exact armSection_inner n s
  · exact Inner.refl s

theorem regainSight_inner (n : SectionNo) (s : State) : Inner s (regainSight n s) := by
  unfold regainSight; split
  · exact (moveSection_inner n _ _ s).trans (clearLive_inner ..)
  · exact Inner.refl s

theorem handOnComplete_inner (n : SectionNo) (r : PerPhase PhaseResult) (s : State) : Inner s (handOnComplete n r s) := by
  unfold handOnComplete
  have base : ∀ f g k h e p, Inner s ((captureHandOver n e k p h (s.modSection n f)).modSection n g) :=
    fun f g k h e p => ((modSection_inner n f s).trans (captureHandOver_inner ..)).trans (modSection_inner n g _)
  dsimp only; split
  · exact base _ _ _ _ _ _
  · exact ((base _ _ _ _ _ _).trans (confirmKind_inner ..)).trans (confirmKind_inner ..)

theorem evaluateComplete_inner (n : SectionNo) (s : State) : Inner s (evaluateComplete n s) := by
  unfold evaluateComplete
  have base := ((regainSight_inner n s).trans (handOnComplete_inner n (phaseResults n (regainSight n s)) _)).trans
    (modSection_inner n (fun x => { x with next := x.next + 1 }) _)
  dsimp only; split
  · exact base.trans (lowerHoldoff_inner n _)
  · exact base

theorem blindTest_inner (n : SectionNo) (p : ProfileNo) (s : State) : Inner s (blindTest n p s) := by
  unfold blindTest; split
  · exact (moveSection_inner n _ _ s).trans (raiseKind_inner ..)
  · exact Inner.refl s

theorem evaluateIncomplete_inner (n : SectionNo) (s : State) : Inner s (evaluateIncomplete n s) := by
  unfold evaluateIncomplete
  dsimp only
  have base : ∀ f g h, Inner s (advanceNext n
      ((captureHandOver n { epoch := s.sections[n].next, phases := none } none (activeProfile n s) h
        (s.modSection n f)).modSection n g)) := fun f g h =>
    (((modSection_inner n f s).trans (captureHandOver_inner ..)).trans (modSection_inner n g _)).trans
      (modSection_inner n _ _)
  split
  · exact (base _ _ _).trans (lowerHoldoff_inner n _)
  · exact (base _ _ _).trans (blindTest_inner n _ _)
  all_goals exact base _ _ _

theorem nextOrder_handed (s : State) : Handed s (nextOrder s).2 := by
  rcases nextOrder_cases s with ⟨c, r, -, h⟩ | ⟨-, h⟩ <;> rw [h] <;> rfl

theorem takeHazard_evaluated (level : Byte) (e : MgmtExec) (s : State) : Evaluated s (takeHazard level e s) := by
  unfold takeHazard
  rcases requestSetHazard_cases level s with ⟨code, h⟩ | ⟨new, h⟩ <;> rw [h] <;> rfl

theorem hazardMoment_evaluated (s : State) : Evaluated s (hazardMoment s) := by
  rcases hazardMoment_cases s with ⟨-, h⟩ | ⟨level, e, -, h | h⟩ <;> rw [h]
  · exact Evaluated.refl s
  · exact (nextOrder_handed s).evaluated
  · exact (nextOrder_handed s).evaluated.trans (takeHazard_evaluated level e _)

theorem evaluateNext_inner (n : SectionNo) (s : State) : Inner s (evaluateNext n s) := by
  unfold evaluateNext; split
  · exact evaluateComplete_inner n s
  · exact Inner.refl s

theorem forcedEvaluation_inner (x : Epoch) (n : SectionNo) (s : State) : Inner s (forcedEvaluation x n s) := by
  unfold forcedEvaluation; split
  · split
    · exact evaluateComplete_inner n s
    · exact evaluateIncomplete_inner n s
  · exact Inner.refl s

theorem memberResyncTest_inner (n : SectionNo) (s : State) : Inner s (memberResyncTest n s) := by
  unfold memberResyncTest; split
  · split
    · exact raiseKind_inner ..
    · exact clearLive_inner ..
  · exact Inner.refl s

theorem sectionStep_inner (c k : Epoch) (n : SectionNo) (s : State) : Inner s (sectionStep c k n s) := by
  unfold sectionStep; split <;> rfl

theorem startSection_inner (n : SectionNo) (s : State) : Inner s (startSection n s) := rfl

theorem loadingAction_inner (n : SectionNo) (kinds : List Kind) (s : State) : Inner s (loadingAction n kinds s) := by
  unfold loadingAction
  dsimp only
  refine (inner_foldl (fun s k => tellLatchedCleared_inner n .loading s k) kinds s).trans ?_
  split <;> rfl

theorem stopSection_inner (n : SectionNo) (s : State) : Inner s (stopSection n s) := by
  unfold stopSection
  have left : Inner s (if s.sections[n].mode.evaluates then leaveService n .loading s else s) := by
    split
    · exact leaveService_inner n _ s
    · exact Inner.refl s
  have cleared : ∀ t, Inner t ((allKinds.foldl (clearKind n .loading) t).modConds n (fun _ => ConditionSet.empty)) :=
    fun t => (inner_foldl (fun s k => clearKind_inner n .loading s k) allKinds t).trans (modConds_inner n _ _)
  exact (((left.trans (cleared _)).trans (loadingAction_inner n _ _)).trans (modSection_inner n _ _)).trans
    (queueReport_inner _ _ _)

theorem restoreSection_inner (n : SectionNo) (s : State) : Inner s (restoreSection n s) := by
  unfold restoreSection
  exact ((((modSection_inner n _ s).trans (inner_foldl (fun s k => clearKind_inner n .restore s k) _ _)).trans
    (inner_foldl (fun s k => tellLatchedCleared_inner n .clearRequest s k) _ _)).trans (retireAction_inner n _)).trans
    (moveSection_inner n _ _ _)

/-! ## The action unit -/

theorem confirmRecords_inner (m : SlotNo) (s : State) : Inner s (confirmRecords m s) := rfl

theorem reportConfirmed_inner (n : SectionNo) (s : State) : Inner s (reportConfirmed n s) := queueReport_inner _ _ s

theorem joinBackup_inner (b : SectionNo) (g : List SectionNo) (s : State) : Inner s (joinBackup b g s) := by
  unfold joinBackup
  dsimp only; split
  · rfl
  · rfl
  · rfl
  · rfl
  · exact (modAction_inner b _ s).trans (inner_foldl (fun s j => latchNotice_inner j s) _ _)
  · rfl

theorem escalate_inner (n : SectionNo) (s : State) : Inner s (escalate n s) := by
  unfold escalate
  dsimp only; split
  · unfold escalateTo
    exact (((joinBackup_inner ..).trans (queueReport_inner _ _ _)).trans (reportHeld_inner _ _)).trans
      (raiseKind_inner ..)
  · rfl

theorem failAction_inner (n : SectionNo) (s : State) : Inner s (failAction n s) := by
  unfold failAction
  exact (((modAction_inner n _ s).trans (queueReport_inner _ _ _)).trans (raiseKind_inner ..)).trans
    (escalate_inner n _)

theorem actionStep_inner (k : Epoch) (s : State) : Inner s (actionStep k s) := rfl

theorem nextOrder_worked (s : State) : Worked s (nextOrder s).2 := (nextOrder_handed s).evaluated.worked

theorem sendSlot_worked (s : State) : Worked s (sendSlot s) := by
  unfold sendSlot; split
  · split
    · exact Worked.refl s
    · unfold sendRecord; dsimp only; split <;> rfl
  · exact Worked.refl s

theorem actionTick_worked (s : State) : Worked s (actionTick s) := by
  unfold actionTick
  refine Worked.trans ?_ (sendSlot_worked _)
  refine (nextOrder_worked s).trans (worked_foldl (fun s w => ?_) _ _)
  cases w with
  | fail n => exact (failAction_inner n s).worked
  | retry n => exact (modAction_inner n (fun a => { a with state := .pending }) s).worked

/-! ## Streams and work -/

theorem modSlot_worked (m : SlotNo) (f : SlotState → SlotState) (s : State) : Worked s (s.modSlot m f) := rfl

theorem countStale_worked (m : SlotNo) (s : State) : Worked s (countStale m s) := by
  unfold countStale; split
  · unfold staleTest; split <;> rfl
  · exact Worked.refl s

theorem reportMove_inner (m : SlotNo) (b : StreamState) (v : SlotMove) (s : State) : Inner s (reportMove m b v s) := by
  unfold reportMove; split
  · exact Inner.refl s
  · split <;> rfl

/-- A piece of work of a frame or a tick. -/
theorem doWork_worked (s : State) (w : Work) : Worked s (doWork s w) := by
  cases w <;> simp only [doWork]
  case switchOpen n => exact (sectionOnOpen_inner n s).worked
  case confirm m => exact (confirmRecords_inner m s).worked
  case confirmed n => exact (reportConfirmed_inner n s).worked
  case latch n => exact (latchNotice_inner n s).worked
  case switchClosed n => exact (sectionOnClosed_inner n s).worked
  case evaluate n => exact (evaluateNext_inner n s).worked
  case streamMoved m b v => exact (reportMove_inner m b v s).worked
  case clockState d => exact (queueReport_inner .device d s).worked
  case force x n => exact (forcedEvaluation_inner x n s).worked
  case discard x => rfl
  case discardBehind => unfold discardBehindMark; split <;> rfl
  case bufferStep x => rfl
  case sectionStep c k n => exact (sectionStep_inner c k n s).worked
  case arm n => exact (armingTest_inner n s).worked
  case stale m => exact countStale_worked m s
  case resyncTest n => exact (memberResyncTest_inner n s).worked
  case actionStep k => exact (actionStep_inner k s).worked
  case actionTick => exact actionTick_worked s

/-- The pieces of work of a frame: those that move no slot, no queue of a port and no closure mark. -/
def Work.ofFrame : Work → Bool
  | .switchOpen _ | .confirm _ | .confirmed _ | .latch _ | .switchClosed _ | .evaluate _ | .streamMoved _ _ _ => true
  | .clockState _ | .force _ _ | .discard _ | .discardBehind | .bufferStep _ | .sectionStep _ _ _ | .arm _ | .stale _
  | .resyncTest _ | .actionStep _ | .actionTick => false

/-- A piece of a frame's work moves what the sections and the action unit hold. -/
theorem doWork_inner (s : State) (w : Work) (h : w.ofFrame = true) : Inner s (doWork s w) := by
  cases w <;> simp only [Work.ofFrame, Bool.false_eq_true] at h <;> simp only [doWork]
  case switchOpen n => exact sectionOnOpen_inner n s
  case confirm m => exact confirmRecords_inner m s
  case confirmed n => exact reportConfirmed_inner n s
  case latch n => exact latchNotice_inner n s
  case switchClosed n => exact sectionOnClosed_inner n s
  case evaluate n => exact evaluateNext_inner n s
  case streamMoved m b v => exact reportMove_inner m b v s

theorem runWork_evaluated (threads : List (List Work)) (s : State) (h : ∀ t ∈ threads, ∀ w ∈ t, w.ofFrame = true) :
    Evaluated s (runWork threads s) :=
  runWork_keeps (P := Evaluated s) threads (fun t k => k.trans (nextOrder_handed t).evaluated)
    (fun _ t k => k.trans (hazardMoment_evaluated t))
    (fun t l hl w hw k => k.trans (doWork_inner t w (h l hl w hw)).handed.evaluated) s (Evaluated.refl s)

theorem runWork_handed (threads : List (List Work)) (s : State)
    (h : ∀ t ∈ threads, ∀ w ∈ t, w.ofFrame = true ∧ w.readsHazard = false) : Handed s (runWork threads s) :=
  runWork_keeps (P := Handed s) threads (fun t k => k.trans (nextOrder_handed t))
    (fun ⟨t, ht, w, hw, hr⟩ _ _ => absurd ((h t ht w hw).2.symm.trans hr) (by decide))
    (fun t l hl w hw k => k.trans (doWork_inner t w (h l hl w hw).1).handed) s (Handed.refl s)

/-- Choosing the orders of the work on confirmed records moves nothing but the choices, and the work is a report's. -/
theorem confirmThread_handed (l : List SectionNo) (s : State) :
    Handed s (confirmThread l s).2 ∧ ∀ w ∈ (confirmThread l s).1, w.ofFrame = true ∧ w.readsHazard = false := by
  induction l generalizing s with
  | nil => exact ⟨Handed.refl s, fun w hw => absurd hw (by simp [confirmThread])⟩
  | cons n l ih =>
    obtain ⟨hs, hw⟩ := ih (nextOrder s).2
    refine ⟨(nextOrder_handed s).trans hs, fun w h => ?_⟩
    rcases List.mem_cons.mp h with rfl | h
    · exact ⟨rfl, rfl⟩
    · obtain ⟨t, ht, h⟩ := mem_interleave h
      rcases List.mem_cons.mp ht with rfl | ht
      · obtain ⟨j, -, rfl⟩ := List.mem_map.mp h
        exact ⟨rfl, rfl⟩
      · rw [List.mem_singleton.mp ht] at h
        exact hw w h

theorem reportOpen_handed (m : SlotNo) (s : State) : Handed s (reportOpen m s) := by
  obtain ⟨hs, hw⟩ := confirmThread_handed (confirmedBy m s) s
  refine hs.trans (runWork_handed _ _ (fun t ht w h => ?_))
  rcases List.mem_cons.mp ht with rfl | ht
  · rcases List.mem_cons.mp h with rfl | h
    · exact ⟨rfl, rfl⟩
    · exact hw w h
  · obtain ⟨n, -, rfl⟩ := List.mem_map.mp ht
    rw [List.mem_singleton.mp h]; exact ⟨rfl, rfl⟩

/-- A position report (R28) moves what the sections and the action unit hold. -/
theorem reportPosition_handed (m : SlotNo) (p : FramePosition) (s : State) : Handed s (reportPosition m p s) := by
  unfold reportPosition
  cases p
  · exact Handed.refl s
  · exact reportOpen_handed m s
  · refine runWork_handed _ s (fun t ht w hw => ?_)
    obtain ⟨n, -, rfl⟩ := List.mem_map.mp ht
    rw [List.mem_singleton.mp hw]; exact ⟨rfl, rfl⟩
  · exact Handed.refl s

/-- The end of a frame's handling writes its slot, and hands on the rest (R24, R55). -/
theorem finishMeasure_evaluated (m : SlotNo) (b : StreamState) (v : SlotMove) (s : State) :
    Evaluated (s.modSlot m (fun _ => v.slot)) (finishMeasure m b v s) := by
  unfold finishMeasure
  refine runWork_evaluated _ _ (fun t ht w hw => ?_)
  rcases List.mem_cons.mp ht with rfl | ht
  · rw [List.mem_singleton.mp hw]; rfl
  · split at ht
    · obtain ⟨n, -, rfl⟩ := List.mem_map.mp ht
      rw [List.eq_of_mem_replicate hw]; rfl
    · exact absurd ht List.not_mem_nil

/-- A frame that stores nothing usable ends with no evaluation. -/
theorem finishMeasure_handed (m : SlotNo) (b : StreamState) (v : SlotMove) (s : State) (h : v.stored = false) :
    Handed (s.modSlot m (fun _ => v.slot)) (finishMeasure m b v s) := by
  unfold finishMeasure
  refine runWork_handed _ _ (fun t ht w hw => ?_)
  rw [h] at ht
  rcases List.mem_cons.mp ht with rfl | ht
  · rw [List.mem_singleton.mp hw]; exact ⟨rfl, rfl⟩
  · exact absurd ht (by simp)

theorem runWork_worked (threads : List (List Work)) (s : State) : Worked s (runWork threads s) :=
  runWork_keeps (P := Worked s) threads (fun t h => h.trans (nextOrder_worked t))
    (fun _ t h => h.trans (hazardMoment_evaluated t).worked) (fun t _ _ w _ h => h.trans (doWork_worked t w)) s
    (Worked.refl s)

end Sys2Proof.Machine
end

