-- ==== Sys2Proof/Laws/Management.lean ====
section
/-! SUPPORT. The execution of a MGMT frame: every piece brings it nearer its end, and carrying it to its end ends it. -/

namespace Sys2Proof.Machine

theorem readWordsOf_length (l : List Byte) : (readWordsOf l).length ≤ l.length / 4 := by
  induction l using readWordsOf.induct with
  | case1 a b c d rest ih => simp only [readWordsOf, List.length_cons]; omega
  | case2 l h => unfold readWordsOf; split
                 · exact absurd rfl (h _ _ _ _ _)
                 · simp

/-- One word of a WRITE leaves one word fewer. -/
theorem writeNext_more {w w' : TableWrite} {s s' : State} (h : writeNext w s = (s', .more w')) :
    w'.words.length + 1 = w.words.length := by
  unfold writeNext at h
  split at h
  · simp at h
  · simp at h
  · rename_i v rest t hw _
    dsimp only at h
    split at h
    · simp at h
    · split at h
      · simp at h
      · simp only [Prod.mk.injEq, WriteStep.more.injEq] at h
        rw [← h.2, hw]; rfl

/-- What a piece of a WRITE leaves of the execution. -/
theorem pieceOfWrite_cases (e : MgmtExec) (w : TableWrite) (s : State) :
    (∃ w', w'.words.length + 1 = w.words.length ∧
      (pieceOfWrite e w s).executing = some { e with writing := some w' }) ∨
    ∃ results, (pieceOfWrite e w s).executing = some { e with writing := none, results := results } := by
  unfold pieceOfWrite
  split
  · rename_i s' w' h; exact .inl ⟨w', writeNext_more h, rfl⟩
  · exact .inr ⟨_, rfl⟩

/-- One piece ends an execution or lowers the bound on the pieces it still needs. -/
theorem executePiece_pieces (e : MgmtExec) (s : State) :
    (executePiece e s).executing = none ∨
    ∃ e', (executePiece e s).executing = some e' ∧ e'.pieces < e.pieces := by
  unfold executePiece
  split
  · rename_i w hw
    refine .inr ?_
    rcases pieceOfWrite_cases e w s with ⟨w', hl, h⟩ | ⟨results, h⟩
    · exact ⟨_, h, by simp only [MgmtExec.pieces, hw]; omega⟩
    · exact ⟨_, h, by simp only [MgmtExec.pieces, hw]; omega⟩
  · exact .inl rfl
  · rename_i q rest hw ht
    refine .inr ?_
    dsimp only
    split
    · exact ⟨_, rfl, by simp only [MgmtExec.pieces, MgmtExec.result, hw, ht, List.map_cons, List.sum_cons]; omega⟩
    · split
      · unfold beginWrite
        split
        · exact ⟨_, rfl, by simp only [MgmtExec.pieces, MgmtExec.result, hw, ht, List.map_cons, List.sum_cons]; omega⟩
        · rename_i a words ho
          split
          · exact ⟨_, rfl, by simp only [MgmtExec.pieces, MgmtExec.result, hw, ht, List.map_cons, List.sum_cons]; omega⟩
          · split
            · exact ⟨_, rfl,
                by simp only [MgmtExec.pieces, MgmtExec.result, hw, ht, List.map_cons, List.sum_cons]; omega⟩
            · have hp : words.length ≤ q.params.length := by
                unfold writeOperands at ho
                split at ho
                · rename_i hb lb r hq
                  split at ho
                  · have h2 : readWordsOf r = words := by
                      have := Option.some.inj ho; exact (Prod.mk.inj this).2
                    rw [← h2, hq]
                    have := readWordsOf_length r
                    simp only [List.length_cons]; omega
                  · exact absurd ho (by simp)
                · exact absurd ho (by simp)
              rcases pieceOfWrite_cases { e with todo := rest } { address := a.toNat, words := words, committed := 0 } s
                with ⟨w', hl, h⟩ | ⟨results, h⟩
              · refine ⟨_, h, ?_⟩
                simp only at hl
                simp only [MgmtExec.pieces, hw, ht, List.map_cons, List.sum_cons]; omega
              · exact ⟨_, h, by simp only [MgmtExec.pieces, hw, ht, List.map_cons, List.sum_cons]; omega⟩
      · exact ⟨_, rfl, by simp only [MgmtExec.pieces, MgmtExec.result, hw, ht, List.map_cons, List.sum_cons]; omega⟩

/-- As many pieces as the bound says end an execution. -/
theorem executePieces_ends (k : Nat) (s : State) (h : ∀ e, s.executing = some e → e.pieces ≤ k) :
    (executePieces k s).executing = none := by
  induction k generalizing s with
  | zero =>
    unfold executePieces
    cases he : s.executing with
    | none => rfl
    | some e => have := h e he; unfold MgmtExec.pieces at this; omega
  | succ k ih =>
    unfold executePieces
    cases he : s.executing with
    | none => exact he
    | some e =>
      refine ih (executePiece e s) (fun e' he' => ?_)
      rcases executePiece_pieces e s with hn | ⟨e'', h1, h2⟩
      · rw [hn] at he'; exact absurd he' (by simp)
      · rw [h1] at he'; rw [← Option.some.inj he']
        have := h e he; omega

/-- After an execution has been carried to its end none is under way. -/
theorem finishExecution_executing (s : State) : (finishExecution s).executing = none := by
  unfold finishExecution
  cases he : s.executing with
  | none => exact he
  | some e => exact executePieces_ends _ s (fun e' h => by rw [he] at h; cases h; exact Nat.le_refl _)

/-- What every piece of an execution keeps, carrying it on keeps. -/
theorem executePieces_keeps {P : State → Prop} (keep : ∀ e s, s.executing = some e → P s → P (executePiece e s))
    (k : Nat) (s : State) (h : P s) : P (executePieces k s) := by
  induction k generalizing s with
  | zero => exact h
  | succ k ih =>
    unfold executePieces
    cases he : s.executing with
    | none => exact h
    | some e => exact ih _ (keep e s he h)

end Sys2Proof.Machine
end

