-- ==== Sys2Proof/Laws/PerInstr.lean ====
section
/-! SUPPORT. Statements about every command, one lemma for each. -/

namespace Sys2Proof.Laws.ReadingWords

/-- No word of the opcode table spells the command (its row gives no bits, log entry 3), and it can be sent with every
operand, but for the two commands that carry what the reading of the configuration memory read (log entry 24). -/
def Statement (i : Instr) : Prop :=
  (∀ nbits w, decodeTableWord nbits w ≠ some i) ∧
  (WellFormed i = true ∨ (∃ words, i = .imagePass1 words) ∨ ∃ header data, i = .loadRecord header data)

theorem no_word (i : Instr) (nbits w : Nat) : decodeTableWord nbits w ≠ some i := fun h => by cases h

theorem powerOnReset : Statement .powerOnReset := ⟨no_word _, .inl rfl⟩
theorem resetRelease (bootSel : Bool) (tag : BitVec 10) :
    Statement (.resetRelease bootSel tag) := ⟨no_word _, .inl rfl⟩
theorem linkDown (port : Port) : Statement (.linkDown port) := ⟨no_word _, .inl rfl⟩
theorem linkUp (port : Port) : Statement (.linkUp port) := ⟨no_word _, .inl rfl⟩
theorem frameReceived (port : Port) (tag : BitVec 10) (fcsOk : Bool) (bytes : List Byte) :
    Statement (.frameReceived port tag fcsOk bytes) := ⟨no_word _, .inl rfl⟩
theorem holdoffDone (n : SectionNo) : Statement (.holdoffDone n) := ⟨no_word _, .inl rfl⟩
theorem epochRefTick (tag : BitVec 10) : Statement (.epochRefTick tag) := ⟨no_word _, .inl rfl⟩
theorem holdoverExpiry (tag : BitVec 10) : Statement (.holdoverExpiry tag) := ⟨no_word _, .inl rfl⟩
theorem staleLimit (m : SlotNo) : Statement (.staleLimit m) := ⟨no_word _, .inl rfl⟩
theorem actionRetry (n : SectionNo) : Statement (.actionRetry n) := ⟨no_word _, .inl rfl⟩
theorem actionTimeout (n : SectionNo) : Statement (.actionTimeout n) := ⟨no_word _, .inl rfl⟩
theorem stationTransmitterTake (tag : BitVec 10) : Statement (.stationTransmitterTake tag) := ⟨no_word _, .inl rfl⟩
theorem fieldTransmitterTake : Statement .fieldTransmitterTake := ⟨no_word _, .inl rfl⟩
theorem mgmtFrameTaken (pieces : Option Nat) (tag : BitVec 10) :
    Statement (.mgmtFrameTaken pieces tag) := ⟨no_word _, .inl rfl⟩
theorem read (address : BitVec 16) (count : Byte) : Statement (.read address count) := ⟨no_word _, .inl rfl⟩
theorem write (address : BitVec 16) (words : List Word) : Statement (.write address words) := ⟨no_word _, .inl rfl⟩
theorem setHazard (level : Byte) : Statement (.setHazard level) := ⟨no_word _, .inl rfl⟩
theorem setPermit (sec : Byte) (value : Byte) : Statement (.setPermit sec value) := ⟨no_word _, .inl rfl⟩
theorem restore (sec : Byte) : Statement (.restore sec) := ⟨no_word _, .inl rfl⟩
theorem clearConditions (sec : Byte) (kinds : Byte) : Statement (.clearConditions sec kinds) := ⟨no_word _, .inl rfl⟩
theorem clearStream (slot : Byte) : Statement (.clearStream slot) := ⟨no_word _, .inl rfl⟩
theorem releaseCapture (index : Byte) : Statement (.releaseCapture index) := ⟨no_word _, .inl rfl⟩
theorem suspend : Statement .suspend := ⟨no_word _, .inl rfl⟩
theorem resume : Statement .resume := ⟨no_word _, .inl rfl⟩
theorem restart : Statement .restart := ⟨no_word _, .inl rfl⟩
theorem identify (tag : BitVec 10) : Statement (.identify tag) := ⟨no_word _, .inl rfl⟩
theorem imagePass1 (words : List Word) : Statement (.imagePass1 words) := ⟨no_word _, .inr (.inl ⟨words, rfl⟩)⟩
theorem loadRecord (header : Word) (data : List Word) :
    Statement (.loadRecord header data) := ⟨no_word _, .inr (.inr ⟨header, data, rfl⟩)⟩
theorem endOfStartUp (check : Word) : Statement (.endOfStartUp check) := ⟨no_word _, .inl rfl⟩

end Sys2Proof.Laws.ReadingWords
end

