-- ==== Sys2Proof/Laws/Work.lean ====
section
/-! SUPPORT. An interleaving holds its threads' pieces, each thread in its own order, and nothing else; so the work of an
event is that of its threads, done one piece after another. -/

namespace Sys2Proof.Machine

/-! ## Interleavings -/

/-- Taking the first element off one thread takes it out of them all. -/
theorem flatten_set_perm {α : Type} {x : α} {rest : List α} : ∀ (l : List (List α)) (i : Nat),
    l[i]? = some (x :: rest) → (x :: (l.set i rest).flatten).Perm l.flatten
  | [], _, h => by simp at h
  | t :: l, 0, h => by
    obtain rfl : t = x :: rest := by simpa using h
    simp
  | t :: l, i + 1, h => by
    have ih := flatten_set_perm l i (by simpa using h)
    simp only [List.set_cons_succ, List.flatten_cons]
    exact (List.perm_middle.symm).trans (ih.append_left t)

/-- A thread stands in the list after one of them has been replaced, or is the one replaced. -/
theorem mem_set_or {α : Type} {t b : α} : ∀ (l : List α) (i : Nat), t ∈ l → t ∈ l.set i b ∨ l[i]? = some t
  | [], _, h => by simp at h
  | a :: l, 0, h => by rcases List.mem_cons.mp h with rfl | h <;> simp [*]
  | a :: l, i + 1, h => by
    rcases List.mem_cons.mp h with rfl | h
    · simp
    · rcases mem_set_or (b := b) l i h with h | h
      · exact .inl (by simp [h])
      · exact .inr (by simpa using h)

/-- What threads hold does not depend on the empty ones. -/
theorem flatten_live {α : Type} (l : List (List α)) : (l.filter (fun t => !t.isEmpty)).flatten = l.flatten := by
  induction l with
  | nil => rfl
  | cons t l ih => cases t <;> simp [ih]

/-- With fuel for all pieces, an interleaving holds exactly what the threads hold, each thread in its own order. -/
theorem interleaveUpTo_spec {α : Type} (fuel : Nat) : ∀ (code : Nat) (threads : List (List α)),
    threads.flatten.length ≤ fuel → (interleaveUpTo fuel code threads).Perm threads.flatten ∧
      ∀ t ∈ threads, t.Sublist (interleaveUpTo fuel code threads) := by
  induction fuel with
  | zero =>
    intro code threads h
    have hn : threads.flatten = [] := List.eq_nil_of_length_eq_zero (by omega)
    refine ⟨by simp [interleaveUpTo, hn], fun t ht => ?_⟩
    rw [List.flatten_eq_nil_iff.mp hn t ht]; exact List.nil_sublist _
  | succ fuel ih =>
    intro code threads h
    have empty : ∀ t ∈ threads, t = [] ∨ t ∈ threads.filter (fun t => !t.isEmpty) := fun t ht => by
      cases t with
      | nil => exact .inl rfl
      | cons a t => exact .inr (List.mem_filter.mpr ⟨ht, rfl⟩)
    rw [← flatten_live threads] at h ⊢
    unfold interleaveUpTo
    generalize hl : threads.filter (fun t => !t.isEmpty) = live at h empty
    split
    · refine ⟨by simp, fun t ht => ?_⟩
      rcases empty t ht with rfl | ht <;> simp_all
    · refine ⟨by simp, fun t ht => ?_⟩
      rcases empty t ht with rfl | ht <;> simp_all
    · rename_i hne hne'
      have hpos : 0 < live.length := by
        cases live with
        | nil => exact absurd rfl hne
        | cons => simp
      have hlt : code % live.length < live.length := Nat.mod_lt _ hpos
      split
      · rename_i x rest hx
        have hp := flatten_set_perm live (code % live.length) hx
        obtain ⟨ihp, ihs⟩ := ih (code / live.length) (live.set (code % live.length) rest)
          (by have := hp.length_eq; simp at this h ⊢; omega)
        refine ⟨(ihp.cons x).trans hp, fun t ht => ?_⟩
        rcases empty t ht with rfl | ht
        · exact List.nil_sublist _
        rcases mem_set_or (b := rest) live (code % live.length) ht with h' | h'
        · exact (ihs t h').cons x
        · rw [hx] at h'
          obtain rfl := Option.some.inj h'
          exact (ihs rest (List.mem_set hlt rest)).cons_cons x
      · rename_i hnone
        exfalso
        have hx : live[code % live.length]? = some live[code % live.length] := List.getElem?_eq_getElem hlt
        have hm : live[code % live.length] ∈ threads.filter (fun t => !t.isEmpty) := hl ▸ List.getElem_mem hlt
        cases hc : live[code % live.length] with
        | nil => rw [hc] at hm; simp at hm
        | cons a t => exact hnone a t (hx.trans (by rw [hc]))

/-- An interleaving holds what its threads hold, each in its own order. -/
theorem interleave_spec {α : Type} (code : Nat) (threads : List (List α)) :
    (interleave code threads).Perm threads.flatten ∧ ∀ t ∈ threads, t.Sublist (interleave code threads) :=
  interleaveUpTo_spec _ code threads (by simp [List.length_flatten])

/-- An arrangement of a list is a permutation of it. -/
theorem arrange_perm {α : Type} (code : Nat) (l : List α) : (arrange code l).Perm l := by
  have flat : (l.map (fun x => [x])).flatten = l := by induction l <;> simp_all
  have h := (interleave_spec code (l.map (fun x => [x]))).1
  rwa [flat] at h

/-! ## Work (log entry 1) -/

/-- A choice of order moves nothing but the choices. -/
theorem nextOrder_orders (s : State) :
    (nextOrder s).2 = { s with order := (nextOrder s).2.order, orderIndex := (nextOrder s).2.orderIndex } := by
  unfold nextOrder; split <;> rfl

/-- The work of threads is done in one of their interleavings. -/
theorem runWork_done (threads : List (List Work)) (s : State) : WorkDone threads s (runWork threads s) :=
  ⟨_, _, interleave_spec (nextOrder s).1 threads, nextOrder_orders s, rfl⟩

theorem apart_eq (l : List Work) : apart l = singly l := rfl

/-- A state that differs in its choices only, said of one that does. -/
theorem orders_trans {s u v : State} (hv : v = { s with order := v.order, orderIndex := v.orderIndex })
    (hu : u = { v with order := u.order, orderIndex := u.orderIndex }) :
    u = { s with order := u.order, orderIndex := u.orderIndex } := by rw [hu, hv]

/-- The forced evaluations of one closure are made one after another, and choosing the orders of the evaluations after
them moves nothing but the choices. -/
theorem forceThread_spec (x : Epoch) (secs : List SectionNo) (rest : List Work) (s : State) :
    ForcesThen (fun n => decide (0 ≤ serialDiff s.sections[n].next x)) x secs rest (forceThread x secs rest s).1 ∧
    (forceThread x secs rest s).2 =
      { s with order := (forceThread x secs rest s).2.order
               orderIndex := (forceThread x secs rest s).2.orderIndex } := by
  induction secs generalizing s with
  | nil => exact ⟨rfl, rfl⟩
  | cons n secs ih =>
    obtain ⟨hf, hs⟩ := ih (nextOrder s).2
    have hu := orders_trans (nextOrder_orders s) hs
    have hn : (nextOrder s).2.sections = s.sections := by rw [nextOrder_orders s]
    rw [hn] at hf
    have hg : goesOn x n (forceThread x secs rest (nextOrder s).2).2 =
        if decide (0 ≤ serialDiff s.sections[n].next x) = true then List.replicate 16 (.evaluate n) else [] := by
      unfold goesOn; rw [hu]; rfl
    exact ⟨⟨_, _, hf, hg ▸ interleave_spec (nextOrder s).1 _, rfl⟩, hu⟩

/-- The work on confirmed records is each one's ACTION_CONFIRMED and then its notices, and choosing the orders moves
nothing but the choices. -/
theorem confirmThread_spec (l : List SectionNo) (s : State) :
    ConfirmsThen (fun n => s.actions[n].origins) l (confirmThread l s).1 ∧
    (confirmThread l s).2 =
      { s with order := (confirmThread l s).2.order, orderIndex := (confirmThread l s).2.orderIndex } := by
  induction l generalizing s with
  | nil => exact ⟨rfl, rfl⟩
  | cons n l ih =>
    obtain ⟨hc, hs⟩ := ih (nextOrder s).2
    have hu := orders_trans (nextOrder_orders s) hs
    have hn : (nextOrder s).2.actions = s.actions := by rw [nextOrder_orders s]
    rw [hn] at hc
    have hl : (confirmThread l (nextOrder s).2).2.actions[n].origins = s.actions[n].origins := by rw [hu]
    exact ⟨⟨_, _, hc, hl ▸ interleave_spec (nextOrder s).1 _, rfl⟩, hu⟩

/-- The closures of a tick are made in turn, and choosing their orders moves nothing but the choices. -/
theorem closureThread_spec (epochs : List Epoch) (s : State) :
    ClosesInTurn (evaluating s) (fun n => s.sections[n].next) epochs (closureThread epochs s).1 ∧
    (closureThread epochs s).2 =
      { s with order := (closureThread epochs s).2.order, orderIndex := (closureThread epochs s).2.orderIndex } := by
  induction epochs generalizing s with
  | nil => exact ⟨rfl, rfl⟩
  | cons x rest ih =>
    obtain ⟨hc, hs⟩ := ih (nextOrder s).2
    have hu := orders_trans (nextOrder_orders s) hs
    have hn : (nextOrder s).2.sections = s.sections := by rw [nextOrder_orders s]
    have hw : (closureThread rest (nextOrder s).2).2.sections = s.sections := by rw [hu]
    have he : evaluating (nextOrder s).2 = evaluating s := by unfold evaluating; rw [hn]
    have he' : evaluating (closureThread rest (nextOrder s).2).2 = evaluating s := by unfold evaluating; rw [hw]
    rw [he, hn] at hc
    obtain ⟨hf, ho⟩ := forceThread_spec x (arrange (nextOrder s).1 (evaluating (closureThread rest (nextOrder s).2).2))
      (.discard x :: (closureThread rest (nextOrder s).2).1) (closureThread rest (nextOrder s).2).2
    rw [hw] at hf
    exact ⟨⟨_, _, he' ▸ arrange_perm (nextOrder s).1 _, hc, hf⟩, orders_trans hu ho⟩

end Sys2Proof.Machine
end

