-- ==== Sys2Proof/Tests/Slice0.lean ====
section
/-! SUPPORT. Tests: the well-formedness checks refuse, the manual's worked examples and tables come out as it gives them,
and the hypotheses of every statement can be met. Every expected value is the manual's. -/

namespace Sys2Proof.Tests

set_option Elab.async false

open Sys2Proof.Machine

/-! ## Helpers -/

def hi (v : BitVec 16) : Byte := v.extractLsb' 8 8
def lo (v : BitVec 16) : Byte := v.extractLsb' 0 8

/-- A Line Stream frame of at least 64 bytes, written out from 12.2: addresses, protocol type, version, kind, stream,
epoch, payload length, payload, padding, check sequence. -/
def frame (kind : Byte) (stream epoch : BitVec 16) (payload : List Byte) : List Byte :=
  let head := [3, 0x4E, 0x5A, 0, 0, 1, 2, 0x4E, 0x5A, 0x26, 0, 9, 0xB2, 0x9E, 1, kind, hi stream, lo stream, hi epoch,
    lo epoch, 0, BitVec.ofNat 8 payload.length] ++ payload
  head ++ List.replicate (60 - head.length) 0 ++ [0xDE, 0xAD, 0xBE, 0xEF]

/-- The state a command leaves, or the state as it was when it is refused. -/
def after (c : Instr) (s : State) : State :=
  match exec c s with
  | .next t => t
  | _ => s

/-- The manual's profile of 6.11, 6.12 and 8.11: pickup 20, slope 2, excess_cap 200, leak 4, trip_level 150, burst 30,
window_len 8, irr_required 3, open_persist 6, open_floor 10, load_floor 200, v_collapse 3600, v_healthy 6500,
blind_after 2, holdoff_epochs 3; DOWNED and OPEN isolate; attempts 2, retry 3, confirm_timeout 8. -/
def profile : Vector Word 12 :=
  #v[0x00020014, 0x000400C8, 0x001E0096, 0x00060308, 0x00C8000A, 0x19640E10, 0x00000302, 0x3, 0x13, 2, 3, 8]

/-- A stream entry: identifier, scale code 6, IA 0, IB 1, IC 2, VA 3, stale limit 3, and the masks of 2.8. -/
def streamWords (id : Word) : Vector Word 6 := #v[id, 0x600, 0x00FF3210, 3, 0x39, 0x02]

/-- A VALID slot of that entry. -/
def slotIn (id : Word) (x : StreamState) : SlotState :=
  { SlotState.blank with words := streamWords id, entry := .valid, stream := x, everLocked := decide (x ≠ .acquiring) }

/-- A section entry: upstream slot 10, no downstream slot, no voltage slot, the switch slot and backup given, both
profiles 0, permit ON. -/
def sectionWords (switch backup : Word) : Vector Word 6 :=
  #v[0x0000FF0A ||| switch <<< 16 ||| backup <<< 24, 0, 0, 0x00010000, 0, 0]

def sectionIn (words : Vector Word 6) (mode : SectionMode) (next : Epoch) : SectionState :=
  { SectionState.blank with words := words, entry := .valid, mode := mode, next := next }

/-- Start-up over, the tables EMPTY, the clock UNSET. -/
def up : State := { State.reset with boot := .over, mode := .active, hazard := .normal }

/-- The same with the clock in RUN at an epoch. -/
def clocked (c : Epoch) : State :=
  { up with clock := { c := c, state := .run, announce := none, progress := .nothing, timer := some 150 } }

/-- Slot 5 of the example of 2.8 in a stream state, L 4, C 201, its ring holding `held`. -/
def stream5 (x : StreamState) (held : List MeasureFrame) : State :=
  let ring := held.foldl (fun ring f => storeRecord (buildRecord (streamWords 3120) f) ring) emptyRing
  { clocked 201 with slots := (clocked 201).slots.set 5 { slotIn 3120 x with ring := ring } }

/-- A MEASURE frame of the stream of 2.8 with four channels. -/
def measure5 (epoch : Epoch) (ok position : Byte) : List Byte :=
  frame 1 3120 epoch ([ok, position, 4] ++ [0, 100, 0, 0, 0, 50, 0, 10, 0, 50, 0, 10, 0, 9, 0, 9])

/-- What that frame reads as. -/
def read5 (epoch : Epoch) (ok : Bool) (position : FramePosition) : MeasureFrame :=
  { stream := 3120, epoch := epoch, sensorOk := ok, position := position
    channels := [⟨100, 0⟩, ⟨50, 10⟩, ⟨50, 10⟩, ⟨9, 9⟩] }

/-- The failed isolation of 8.11 at tick 851: section 3 in WATCH with DOWNED {B} and its record SENT since 843, switch
slot 13, backup section 1 with switch slot 5, all under `profile` as profile 0. -/
def failing : State :=
  let s := clocked 851
  let sent : ActionRecord :=
    { state := .sent, cause := .downed, target := 13, attempts := 2, firstSent := some 843, lastSent := some 846
      origins := [] }
  { s with
    slots := ((s.slots.set 10 (slotIn 3010 .locked)).set 13 (slotIn 3013 .locked)).set 5 (slotIn 3005 .locked)
    profiles := s.profiles.set 0 { words := profile, entry := .valid, reason := .good }
    sections :=
      (s.sections.set 3 (sectionIn (sectionWords 13 1) .watch 850)).set 1 (sectionIn (sectionWords 5 255) .watch 850)
    conds := s.conds.set 3
      { ConditionSet.empty with downed := some ⟨.isolate, 0, .normal⟩, downedPhases := ⟨false, true, false⟩ }
    actions := s.actions.set 3 sent }

/-- `failing` with the mode of section 3 replaced. -/
def sectionThree (mode : SectionMode) : State :=
  failing.modSection 3 (fun x => { x with mode := mode })

/-- `failing` with the record of section 3 replaced. -/
def recordThree (a : ActionRecord) : State := { failing with actions := failing.actions.set 3 a }

def held : ActionRecord :=
  { state := .held, cause := .downed, target := 13, attempts := 0, firstSent := none, lastSent := none, origins := [] }

/-! ## Well-formedness -/

theorem test_wellFormed_pass1 : WellFormed (.imagePass1 [0x4E570000, 41, 0, 0]) = true := by decide
theorem test_wellFormed_refuses_pass1 : WellFormed (.imagePass1 [0x4E570000, 41, 1, 0]) = false := by decide
theorem test_wellFormed_record : WellFormed (.loadRecord 0x01000006 [1, 2, 3]) = true := by decide
theorem test_wellFormed_refuses_record : WellFormed (.loadRecord 0x01000002 [1, 2, 3]) = false := by decide

/-! ## Serial arithmetic and windows (6.3, 2.9) -/

theorem test_serialDiff_wrap : serialDiff 65534 1 = 3 := by decide
theorem test_serialDiff_far : serialDiff 5 25541 = 25536 := by decide

/-! ## Arithmetic (6.11 to 6.13) -/

/-- One phase of section 6 of 6.11: two downstream slots, load allowance 15. -/
def downed (u d2 : Phasor) : PhaseInputs :=
  { upstream := some u, downstream := [some ⟨700, -200⟩, some d2], others := none, vFar := none, vUp := none
    allowance := 15 }

def seen (e : Epoch) (irr : Bool) : OutcomeAt := { epoch := e, irregular := irr }

theorem test_downed_101 :
    (evalPhase profile false 101 (downed ⟨1254, -303⟩ ⟨457, -83⟩) ⟨0, 0, [seen 100 false], some 41⟩).state =
      ⟨24, 0, [seen 100 false, seen 101 true], some 99⟩ := by decide +kernel

theorem test_downed_104 :
    (evalPhase profile false 104 (downed ⟨1254, -303⟩ ⟨426, -75⟩)
      ⟨102, 0, [seen 100 false, seen 101 true, seen 102 true, seen 103 true], some 88⟩).downed = true := by
  decide +kernel

theorem test_downed_106 :
    (evalPhase profile false 106 { downed ⟨68, -17⟩ ⟨-700, 200⟩ with allowance := 53 } ⟨158, 0, [], none⟩).state.acc =
      154 := by decide +kernel

/-- Phase A of section 9 of 6.12. -/
def parted (vUp : Phasor) (load : Nat) : PhaseInputs :=
  { upstream := some ⟨3, 0⟩, downstream := [some ⟨0, 0⟩], others := some load, vFar := some ⟨1140, -1520⟩
    vUp := some vUp, allowance := 0 }

theorem test_open_306 :
    (evalPhase profile false 306 (parted ⟨4290, -5720⟩ 1210) ⟨0, 5, [], none⟩).opened = true := by decide +kernel

theorem test_open_above :
    (evalPhase profile false 300 (parted ⟨3120, -4160⟩ 1210) ⟨0, 5, [], none⟩).state.openCount = 0 := by
  decide +kernel

theorem test_limits :
    (evalPhase #v[0, 0x0000FFFF, 0xFFFF, 0x00010004, 0, 0, 0, 0, 0, 0, 0, 0] false 7
      { upstream := some ⟨32767, 32767⟩, downstream := List.replicate 6 (some ⟨-32767, -32767⟩), others := none
        vFar := none, vUp := none, allowance := 0 } ⟨30000, 0, [], none⟩).state.acc = 65535 := by decide +kernel

theorem test_limits_threshold : threshold #v[0x003F0FFF, 0, 0, 0, 0, 0, 0, 0, 0, 0, 0, 0] 4095 46339 = 53804 := by
  decide +kernel

/-! ## Layouts (chapter 12) -/

theorem test_report_record : ReportRecord.bytes
    { origin := .sec 3, epoch := some 851, detail := .actionFailed .downed 13 2 (some 843) 0 } =
    [6, 1, 3, 1, 0x03, 0x53, 2, 13, 2, 0x03, 0x4B, 0, 0, 0, 0, 0, 0, 0, 0, 0] := by decide +kernel

theorem test_action_frame : (ActionFrame.bytes
    { tag := 9, stream := 3013, epoch := 851, sec := 3, cause := .downed, attempt := 2 }).take 26 =
    [3, 0x4E, 0x5A, 0, 0, 2, 2, 0x4E, 0x5A, 0x26, 0, 9, 0xB2, 0x9E, 1, 4, 0x0B, 0xC5, 0x03, 0x53, 0, 4, 1, 3, 2, 2] := by
  decide +kernel

/-- 12.2: the source address is 02-4E-5A-26 and TAG; TAG is read at the taking (R174). -/
theorem test_report_tag : ((after (.stationTransmitterTake 9) { up with report := { up.report with
      queue := [{ origin := .device, epoch := none, detail := .hazardChange .normal .elevated }] } }).port.stationTx.map
      (fun f => match f with
        | .device bytes => bytes.take 12
        | .forwarded _ => [])) = some [3, 0x4E, 0x5A, 0, 0, 1, 2, 0x4E, 0x5A, 0x26, 0, 9] := by decide +kernel

/-! ## Commands -/

theorem test_powerOnReset : (after .powerOnReset failing).settings = #v[0x402, 0x100, 0, 0] := by decide +kernel

theorem test_resetRelease : (after (.resetRelease false 9) State.reset).clock.timer = some 150 := by decide +kernel
theorem test_resetRelease_hazard : (after (.resetRelease false 9) State.reset).hazard = .elevated := by decide +kernel

theorem test_linkDown :
    (after (.linkDown .field) { up with port := { up.port with fieldTx := some (.forwarded [1]) } }).port.fieldTx = none := by
  decide +kernel
theorem test_linkUp : (after (.linkUp .station) (after (.linkDown .station) up)).port.stationUp = true := by
  decide +kernel

/-- 2.8: the second DESCRIBE locks the stream. -/
theorem test_frame_describe :
    (after (.frameReceived .field 9 true (frame 2 3120 0 [6, 4, 1, 2, 3, 4])) (stream5 .acquiring [])).slots[5].stream =
      .locked := by decide +kernel

/-- 2.8: the first, with VB where the map expects VA, is a DESCRIPTOR_MISMATCH and is counted. -/
theorem test_frame_mismatch :
    (after (.frameReceived .field 9 true (frame 2 3120 0 [6, 4, 1, 2, 3, 5])) (stream5 .acquiring [])).slots[5].errors = 1 := by
  decide +kernel

/-- 3.9: the edge at 825 ms is a step from 40005 to 40010, k is +4, and a first-sent of 40003 becomes 40007. -/
theorem test_epochRefTick_step :
    (after (.epochRefTick 9) { recordThree { held with state := .confirmed, firstSent := some 40003 } with
      clock := { c := 40005, state := .run, announce := some 40010, progress := .nothing, timer := none }
      order := List.replicate 8 0 }).actions[3].firstSent = some 40007 := by decide +kernel

/-- R42, R47, R171: at one expiry CLOCK_STATE is queued before the ACTION_FAILED of section 3 or after it. -/
theorem test_holdoverExpiry_orders :
    let queued (code : Nat) : List Originator :=
      (after (.holdoverExpiry 9) { failing with order := List.replicate 8 code }).report.queue.map (fun r => r.origin)
    (queued 0).head? = some .device ∧ (queued 2).head? = some (.sec 3) ∧ .device ∈ queued 2 := by decide +kernel

/-- 3.9: the edge at 220 ms numbers the clock. -/
theorem test_epochRefTick_numbers :
    (after (.epochRefTick 9) { up with clock := { up.clock with announce := some 40000 }, order := List.replicate 8 0 }).clock =
      { c := 40000, state := .run, announce := none, progress := .nothing, timer := some 150 } := by decide +kernel

/-- 3.9: the timer's expiry at 570 ms. -/
theorem test_holdoverExpiry :
    (after (.holdoverExpiry 9) { clocked 40002 with order := List.replicate 8 0 }).clock =
      { c := 40003, state := .holdover, announce := none, progress := .nothing, timer := some 100 } := by decide +kernel

theorem test_holdoffDone : (after (.holdoffDone 3) (sectionThree .holdoff)).sections[3].mode = .watch := by
  decide +kernel

/-- 2.8: at a count of 3 the stream goes STALE. -/
theorem test_staleLimit :
    (after (.staleLimit 5) ((stream5 .locked []).modSlot 5 (fun x => { x with staleCount := 3 }))).slots[5].stream =
      .stale := by decide +kernel

theorem test_actionRetry :
    (after (.actionRetry 3) (recordThree { held with state := .sent, attempts := 1, firstSent := some 848, lastSent := some 848 })).actions[3].state =
      .pending := by decide +kernel

/-- 8.11: the timeout at 851, and the escalation to section 1. -/
theorem test_actionTimeout : (after (.actionTimeout 3) failing).actions[3].state = .failed := by decide +kernel
theorem test_actionTimeout_backup : (after (.actionTimeout 3) failing).actions[1] =
    { state := .pending, cause := .escalation, target := 5, attempts := 0, firstSent := none, lastSent := none
      origins := [3] } := by decide +kernel

def tenRecords : State :=
  { up with report := { up.report with
      queue := List.replicate 10 { origin := .device, epoch := none, detail := .hazardChange .normal .elevated } } }

/-- 1.8: the REPORT frame takes the 8 oldest records, and two are left. -/
theorem test_stationTransmitterTake : (after (.stationTransmitterTake 9) tenRecords).report.queue.length = 2 := by
  decide +kernel
theorem test_fieldTransmitterTake :
    (after .fieldTransmitterTake { up with port := { up.port with toField := [[1], [2]] } }).port.fieldTx =
      some (.forwarded [1]) := by decide +kernel

/-- 11.10, its first, second, fourth and fifth requests, with section 3 in place of 5. -/
def oneFrame : List Byte :=
  frame 6 0 0 ([0, 9, 3] ++ [9, 0, 0] ++ [1, 0, 3, 0x02, 0x80, 1] ++ [4, 0, 2, 3, 0])

theorem test_mgmtFrameTaken :
    ((after (.mgmtFrameTaken none 9) { failing with port := { failing.port with intake := [oneFrame] } }).port.replyHold.map
      (fun r => r.results.map (fun x => x.code))) = some [.actionBusy, .badAddress, .ok] := by decide +kernel

theorem test_read : (after (.read 0x1003 1) failing).lastResult =
    some { request := 1, code := .ok, data := [0, 0, 0, 0] } := by decide +kernel
theorem test_read_unmapped : (after (.read 0x0280 1) failing).lastResult =
    some { request := 1, code := .badAddress, data := [] } := by decide +kernel

/-- 11.10: BUSY with 0 entries; 11.9: a record that begins in the middle of an entry. -/
theorem test_write_busy : (after (.write 0x0412 (List.replicate 6 0)) failing).lastResult =
    some { request := 2, code := .busy, data := [0] } := by decide +kernel
theorem test_write_middle : (after (.write 0x0105 (List.replicate 6 0)) failing).lastResult =
    some { request := 2, code := .badAddress, data := [0] } := by decide +kernel

theorem test_setHazard : (after (.setHazard 1) failing).report.queue.map (fun r => r.detail) =
    [.hazardChange .normal .elevated] := by decide +kernel
/-- A frame under execution that has come to SET_HAZARD ELEVATED. -/
def hazardComing : MgmtExec :=
  { dest := [2, 0, 0, 0, 0, 1], mode := .active, todo := [⟨3, [1]⟩], results := [], writing := none }

/-- R111: the change of level falls between an evaluation and the next, or does not. -/
theorem test_hazardMoment :
    (hazardMoment { failing with executing := some hazardComing, order := [1] }).hazard = .elevated := by decide +kernel
theorem test_hazardMoment_later :
    (hazardMoment { failing with executing := some hazardComing, order := [0] }).hazard = .normal := by decide +kernel

theorem test_setPermit : (after (.setPermit 3 0) failing).sections[3].words[3] = 0 := by decide +kernel
theorem test_restore : (after (.restore 3) (sectionThree .latched)).sections[3].mode = .arming := by decide +kernel
theorem test_clearConditions : (after (.clearConditions 3 2) failing).conds[3].downed = none := by decide +kernel
theorem test_clearStream : (after (.clearStream 5)
    ((stream5 .locked []).modSlot 5 (fun x => { x with errors := 4 }))).slots[5].errors = 0 := by decide +kernel
theorem test_releaseCapture : (after (.releaseCapture 1) { up with missed := up.missed.set 2 true }).missed[2] = false := by
  decide +kernel
theorem test_suspend : (after .suspend up).mode = .suspended := by decide +kernel
theorem test_suspend_busy : (after .suspend failing).mode = .active := by decide +kernel
theorem test_resume : (after .resume { recordThree held with mode := .suspended }).actions[3].state = .pending := by
  decide +kernel
theorem test_restart : (after .restart (recordThree held)).sections[3].mode = .arming := by decide +kernel

/-- 12.3: part code 2616 is 0x0A38. -/
theorem test_identify : (after (.identify 9) up).lastResult =
    some { request := 12, code := .ok, data := [0x0A, 0x38, 1, 64, 8, 32, 4, 0, 0, 0, 0, 0, 0, 0, 9] } := by
  decide +kernel

theorem test_imagePass1 :
    (after (.imagePass1 [0x4E570000, 41, 0, 1]) { up with boot := .pass1 }).imageStatus = .rejected := by decide +kernel
theorem test_imagePass1_ok :
    (after (.imagePass1 [0x4E570000, 41, 0, 0]) { up with boot := .pass1 }).imageStatus = .noImage := by decide +kernel

def pass2 (taken : Nat) : Pass2 :=
  { identity := 41, wordCount := 12, taken := taken, sum := 0, errors := false, ended := false }

/-- 11.9: record 6, at 0x0105, is skipped and the status marked. -/
theorem test_loadRecord : (after (.loadRecord 0x01050006 [1, 2, 3, 4, 5, 6]) { up with boot := .pass2 (pass2 0) }).boot =
    .pass2 { pass2 7 with sum := 0x0105001B, errors := true } := by decide +kernel
theorem test_endOfStartUp :
    (after (.endOfStartUp 0) { up with boot := .pass2 { pass2 12 with errors := true } }).imageStatus = .appliedWithErrors := by
  decide +kernel

/-- R191: the check word that pass 2 reads differs from its sum. -/
theorem test_endOfStartUp_check :
    (after (.endOfStartUp 1) { up with boot := .pass2 (pass2 12) }).imageStatus = .appliedWithErrors := by decide +kernel

/-- R63: with the record for C + 3 held, a frame for it is a DUPLICATE in RUN. -/
theorem test_frame_held_ahead :
    (after (.frameReceived .field 9 true (measure5 204 1 0))
      { stream5 .locked [read5 204 true .unstated] with order := [0, 0] }).slots[5].sticky.duplicate = true := by
  decide +kernel

/-- 11.9: a profile entry whose fields are all 0 is BAD_RANGE. -/
theorem test_profile_range : (after (.write 0x0354 (List.replicate 12 0)) failing).profiles[7].reason = .badRange := by
  decide +kernel

/-! ## Witnesses: the hypotheses of each statement, met together -/

theorem up_running : Running up := by unfold Running; decide +kernel
theorem failing_running : Running failing := by unfold Running; decide +kernel
theorem up_serving : Serving up := ⟨up_running, by decide +kernel, by decide +kernel⟩
theorem failing_serving : Serving failing := ⟨failing_running, by decide +kernel, by decide +kernel⟩

theorem witness_StepRunsFrontCommand : up.pending = [] := rfl

theorem witness_RefusesIncompleteReadingsOnly :
    ([0x4E570000, 41, 1] : List Word).length ≠ pass1Length [0x4E570000, 41, 1] ∧
    (pass2 5).ended = false ∧ (pass2 5).taken + 1 + (0x01000006 : Word).toNat % 65536 ≤ (pass2 5).wordCount ∧
    ([1] : List Word).length ≠ (0x01000006 : Word).toNat % 65536 := by decide +kernel

theorem witness_ResetReleaseResult : State.reset.boot = .resetLow := rfl

/-- A part with RESET_N low and a command that is none of the four. -/
theorem witness_PowerOnResetResult : State.reset.boot = .resetLow ∧ (∀ bootSel tag, Instr.suspend ≠ .resetRelease bootSel tag) ∧
    Instr.suspend ≠ .powerOnReset ∧ ∀ port, Instr.suspend ≠ .linkDown port ∧ Instr.suspend ≠ .linkUp port :=
  ⟨rfl, fun _ _ => nofun, nofun, fun _ => ⟨nofun, nofun⟩⟩

/-- R14: a frame that arrives while RESET_N is low is lost. -/
theorem test_resetLow_frame :
    (after (.frameReceived .field 9 true (frame 3 0 7 [])) State.reset).port.toStation = [] := by decide +kernel

/-- Pass 1 that succeeds with a body of 0 and of 2 words, and that fails at each test: the mark, a word count of 4097,
the sum; and pass 2 read to its end or ended early. -/
theorem witness_ImageReadingResult :
    (∀ words ∈ ([[0x4E570000, 41, 0, 0], [0x4E57FFFF, 41, 2, 0xFFFFFFFF, 3, 2]] : List (List Word)),
      words.length = pass1Length words ∧ (words.getD 0 0).toNat / 65536 = 0x4E57 ∧ (words.getD 2 0).toNat ≤ 4096 ∧
      (((words.drop 3).take (words.getD 2 0).toNat).map BitVec.toNat).sum % 2 ^ 32 =
        (words.getD (3 + (words.getD 2 0).toNat) 0).toNat) ∧
    (∀ words ∈ ([[0x4E560000, 41, 0, 0], [0x4E570000, 41, 4097], [0x4E570000, 41, 1, 5, 6]] : List (List Word)),
      words.length = pass1Length words ∧ ¬((words.getD 0 0).toNat / 65536 = 0x4E57 ∧ (words.getD 2 0).toNat ≤ 4096 ∧
      (((words.drop 3).take (words.getD 2 0).toNat).map BitVec.toNat).sum % 2 ^ 32 =
        (words.getD (3 + (words.getD 2 0).toNat) 0).toNat)) ∧
    (pass2 12).wordCount ≤ (pass2 12).taken ∧ ({ pass2 3 with ended := true } : Pass2).ended = true := by decide +kernel

/-- One word past the end of the body, exactly its end with a refused record, and a settings record with L 1 and 12. -/
theorem witness_LoadRecordResult :
    (pass2 5).ended = false ∧ (pass2 5).taken < (pass2 5).wordCount ∧ (pass2 5).wordCount < (pass2 5).taken + 1 + 7 ∧
    (pass2 5).taken + 1 + 6 ≤ (pass2 5).wordCount ∧ writeRefusal 0x0105 [1, 2, 3, 4, 5, 6] up = some .badAddress ∧
    allowanceL #v[0x100, 0, 0, 0] = 1 ∧ allowanceL #v[0xC00, 0, 0, 0] = 12 ∧
    (0x027A0006 : Word).toNat / 65536 = 0x0100 + 6 * (63 : SlotNo).val ∧ (streamWords 3063).toList.length = 6 ∧
    (0x03000006 : Word).toNat / 65536 = 0x0300 + 12 * (0 : ProfileNo).val ∧ profile.toList.length = 12 ∧
    profileInUse 0 up = false ∧ (0x04BA0006 : Word).toNat / 65536 = 0x0400 + 6 * (31 : SectionNo).val ∧
    up.actions[31].state = .noAction := by decide +kernel

/-- A record that spans two entries and ends at the end of the body, one that ends within an entry, and one of no
words. -/
theorem witness_LoadRecordResult_spanning :
    ({ pass2 0 with wordCount := 13 } : Pass2).taken + 1 + 12 ≤ ({ pass2 0 with wordCount := 13 } : Pass2).wordCount ∧
    writeRefusal 0x0400 ((sectionWords 5 255).toList ++ (sectionWords 5 1).toList) up = none ∧
    writeRefusal 0x0400 ((sectionWords 5 255).toList ++ [0]) up = none ∧ writeRefusal 0x0400 [0] up = none ∧
    writeRefusal 0x0400 [] up = some .badLength := by decide +kernel

theorem witness_RequestsNotReadyInStarting :
    requestOf .suspend = some 9 ∧ requestOf (.write 0 []) = some 2 ∧
    Running { up with mode := .starting } ∧ ({ up with mode := .starting } : State).executing = none :=
  ⟨rfl, rfl, by unfold Running; decide +kernel, rfl⟩

/-- A frame of another protocol, of 64 and of 2560 bytes. -/
def foreign (k : Nat) : List Byte := List.replicate k 0

theorem foreign_read : parseFrame (foreign 64) = .foreign := by decide +kernel
theorem foreign_read_longest : parseFrame (foreign 2560) = .foreign := by decide +kernel

/-- The MGMT frame of the part with TAG 9. -/
theorem mgmt_read : parseFrame oneFrame = .mgmt ((9 : BitVec 10).setWidth 16) [2, 0x4E, 0x5A, 0x26, 0, 9]
    [⟨9, []⟩, ⟨1, [0x02, 0x80, 1]⟩, ⟨4, [3, 0]⟩] := by decide +kernel

theorem witness_FramesForwardedOrDiscarded :
    Running up ∧ (foreign 63).length < 64 ∧ 2560 < (foreign 2561).length ∧
    (after (.linkDown .field) up).port.up .field = false ∧ 64 ≤ (foreign 64).length ∧ (foreign 2560).length ≤ 2560 ∧
    up.port.fieldUp = true ∧ up.port.stationUp = true ∧
    (∀ bytes ∈ [foreign 64, foreign 2560], (∀ f, parseFrame bytes ≠ .measure f) ∧ (∀ f, parseFrame bytes ≠ .describe f) ∧
      (∀ e, parseFrame bytes ≠ .sync e) ∧ ∀ tag source requests, parseFrame bytes ≠ .mgmt tag source requests) ∧
    64 ≤ oneFrame.length ∧ oneFrame.length ≤ 2560 ∧ ∃ source requests,
      parseFrame oneFrame = .mgmt ((9 : BitVec 10).setWidth 16) source requests := by
  refine ⟨up_running, by decide +kernel, by decide +kernel, by decide +kernel, by decide +kernel, by decide +kernel,
    by decide +kernel, by decide +kernel, ?_, by decide +kernel, by decide +kernel, _, _, mgmt_read⟩
  intro bytes h
  have read : parseFrame bytes = .foreign := by
    rcases List.mem_cons.mp h with rfl | h
    · exact foreign_read
    · rw [List.mem_singleton.mp h]; exact foreign_read_longest
  rw [read]
  refine ⟨?_, ?_, ?_, ?_⟩ <;> intros <;> exact nofun

/-- A SYNC frame, and for each row of the acceptance table the settings word 1 of its mode. -/
theorem witness_SyncFrameFollowsAcceptance :
    parseFrame (frame 3 0 900 []) = .sync 900 ∧ 64 ≤ (frame 3 0 900 []).length ∧ (frame 3 0 900 []).length ≤ 2560 ∧
    up.port.stationUp = true ∧ syncMode #v[0x402, 0, 0, 0] = .every ∧ syncMode #v[0x402, 1, 0, 0] = .nextOnly ∧
    syncMode #v[0x402, 2, 0, 0] = .skipOneThenEvery ∧ syncMode #v[0x402, 3, 0, 0] = .off := by decide +kernel

/-- 3.10: the four modes after four SYNC frames. -/
theorem test_acceptance :
    ([SyncMode.every, .nextOnly, .skipOneThenEvery, .off].map (fun m =>
      (List.range 4).foldl (fun (l, p) _ => let (u, q) := acceptSync m p; (l ++ [u], q)) ([], restartProgress m))) =
    [([true, true, true, true], .nothing), ([true, false, false, false], .done),
     ([false, true, true, true], .passing), ([false, false, false, false], .nothing)] := by decide +kernel

theorem witness_TransmittersTakeInPrecedence :
    Running tenRecords ∧ tenRecords.port.replyHold = none ∧ tenRecords.report.queue ≠ [] ∧
    (∀ o, tenRecords.report.owed o = false) ∧ up.report.queue = [] ∧ up.port.toStation = [] ∧ up.port.toField = [] ∧
    up.port.actionList = [] := by
  refine ⟨by unfold Running; decide +kernel, rfl, by decide +kernel, ?_, rfl, rfl, rfl, rfl⟩
  intro o
  cases o with
  | device => rfl
  | sec n => revert n; decide +kernel
  | slot m => revert m; decide +kernel

/-- A full queue with one mark, as in 10.7. -/
def fullQueue : State :=
  { tenRecords with report := { tenRecords.report with
      queue := List.replicate 64 { origin := .device, epoch := none, detail := .hazardChange .normal .elevated }
      owedSections := tenRecords.report.owedSections.set 3 true } }

theorem witness_TakingSummarizesOwed :
    Running fullQueue ∧ fullQueue.port.replyHold = none ∧ fullQueue.report.queue ≠ [] ∧
    fullQueue.report.queue.length ≤ 64 :=
  ⟨by unfold Running; decide +kernel, rfl, by decide +kernel, by decide +kernel⟩

/-- A queue with a free place and a full one, the clock UNSET and set. -/
theorem witness_TakingSummarizesOwed_handing :
    tenRecords.report.queue.length < 64 ∧ 64 ≤ fullQueue.report.queue.length ∧ up.clock.state = .unset ∧
    (clocked 201).clock.state ≠ .unset := by decide +kernel

/-- R173: a record for the full queue sets the mark of its originator. -/
theorem test_handing_full : (queueReport (.slot 63) (.hazardChange .normal .elevated) fullQueue).report.owed (.slot 63) =
    true := by decide +kernel

/-- 10.7: the taking of 8 records leaves 56, and the originator owed is summarized after them. -/
theorem test_summary : ((after (.stationTransmitterTake 9) fullQueue).report.queue.drop 56).map (fun r => r.origin) =
    [.sec 3] := by decide +kernel

theorem witness_DeviceFramesWellFormed :
    tenRecords.report.queue.take 1 ≠ [] ∧
    (tenRecords.report.queue.take 8).length = 8 ∧ ([2, 0, 0, 0, 0, 1] : List Byte).length = 6 ∧
    (List.replicate 8 (⟨1, .ok, List.replicate 256 0⟩ : Result)).length ≤ 8 ∧
    (List.replicate 256 (0 : Byte)).length ≤ 256 := by decide +kernel

/-- The frames that `FramesRead` speaks of: a MEASURE frame with the ends of a channel's range and the last position
code, a MGMT frame, and a payload length one beyond the bytes that follow the header. -/
theorem witness_DeviceFramesWellFormed_read :
    [(-32768 : Int), 32767].all (fun x => decide (-32768 ≤ x ∧ x ≤ 32767)) = true ∧
    [FramePosition.unstated, .opened, .closed, .moving][3]? = some .moving ∧ (3120 : BitVec 16) ≠ 0 ∧
    (3120 : BitVec 16) ≠ 65535 ∧ ([3, 0x4E, 0x5A, 0, 0, 1] : List Byte).length = 6 ∧
    ([] : List Byte).length + ([0, 0] : List Byte).length < 3 ∧
    (laidOut [(2, 9), (1, 1)] ++ laidOut [(1, 9), (2, 0)]).length = 6 := by decide +kernel

/-- Payloads at the ends of R4's ranges: sensor_ok 2, 9 channels, a length one short, a request count of 9, and a MGMT
payload with a byte after its last request; and a MGMT_REPLY payload with no result. -/
theorem test_malformed :
    (∀ payload ∈ ([[2, 0, 1, 0, 1, 0, 1], [1, 0, 9] ++ List.replicate 36 0, [1, 0, 1, 0, 1, 0]] : List (List Byte)),
      parseFrame (frame 1 3120 201 payload) = .foreign) ∧
    (∀ payload ∈ ([[6, 9] ++ List.replicate 9 0, [6, 2, 0]] : List (List Byte)),
      parseFrame (frame 2 3120 201 payload) = .foreign) ∧
    (∀ payload ∈ ([[0, 9, 9] ++ (List.replicate 9 [9, 0, 0]).flatten, [0, 9, 1, 9, 0, 0, 0]] : List (List Byte)),
      parseFrame (frame 6 0 0 payload) = .foreign) ∧
    parseFrame (frame 7 0 0 [0, 9, 0]) = .passing := by decide +kernel

theorem map5 (q : Quantity) (i : Nat) (h : mapIndex (streamWords 3120) q = some i) : i < 4 := by
  have all : ∀ q ∈ allQuantities, ∀ i ∈ (mapIndex (streamWords 3120) q), i < 4 := by decide +kernel
  exact all q (by cases q <;> decide) i h

theorem witness_DescribeFrameResult :
    parseFrame (frame 2 3120 0 [6, 4, 1, 2, 3, 4]) = .describe { stream := 3120, scale := 6, codes := [1, 2, 3, 4] } ∧
    64 ≤ (frame 2 3120 0 [6, 4, 1, 2, 3, 4]).length ∧ (frame 2 3120 0 [6, 4, 1, 2, 3, 4]).length ≤ 2560 ∧
    (∀ x ∈ [StreamState.acquiring, .locked], (stream5 x []).port.fieldUp = true ∧ lookup 3120 (stream5 x []) = some 5 ∧
      (stream5 x []).slots[5].stream = x) ∧ expectedScale (streamWords 3120) = 6 ∧
    lookup 3121 (stream5 .locked []) = none ∧
    (∀ q ∈ allQuantities, ∀ i ∈ mapIndex (streamWords 3120) q, [1, 2, 3, 4][i]? = some (q.index + 1)) ∧
    ¬∀ q ∈ allQuantities, ∀ i ∈ mapIndex (streamWords 3120) q, [1, 2, 3, 5][i]? = some (q.index + 1) := by
  decide +kernel

/-- A MEASURE frame with three channels, one fewer than the map of 2.8 needs. -/
theorem witness_MeasureShortOrUnset :
    parseFrame (frame 1 3120 201 [1, 0, 3, 0, 1, 0, 1, 0, 1, 0, 1, 0, 1, 0, 1]) =
      .measure { stream := 3120, epoch := 201, sensorOk := true, position := .unstated, channels := List.replicate 3 ⟨1, 1⟩ } ∧
    mapIndex (streamWords 3120) .va = some 3 ∧ (stream5 .locked []).slots[5].stream = .locked ∧
    (stream5 .locked []).slots[5].words = streamWords 3120 ∧ (stream5 .locked []).clock.state ≠ .unset ∧
    lookup 3120 (stream5 .locked []) = some 5 ∧ lookup 3121 (stream5 .locked []) = none ∧
    lookup 3120 (stream5 .acquiring []) = some 5 ∧ (stream5 .acquiring []).slots[5].stream = .acquiring ∧
    lookup 3120 { stream5 .locked [] with clock := EpochClock.start } = some 5 ∧
    ({ stream5 .locked [] with clock := EpochClock.start } : State).clock.state = .unset ∧
    inResyncMask (streamWords 3120) .channelShort = true ∧ inResyncMask (streamWords 3120) .early = false ∧
    inResyncMask #v[3120, 0x600, 0x00FF3210, 3, 0x39, 0] .channelShort = false ∧
    inResyncMask #v[3120, 0x600, 0x00FF3210, 3, 0x39, 0x20] .sensorFault = true := by decide +kernel

theorem read_204 : parseFrame (measure5 204 0 2) = .measure (read5 204 false .closed) := by decide +kernel
theorem read_197 : parseFrame (measure5 197 0 2) = .measure (read5 197 false .closed) := by decide +kernel
theorem read_201 : parseFrame (measure5 201 0 2) = .measure (read5 201 false .closed) := by decide +kernel
theorem read_198 : parseFrame (measure5 198 1 2) = .measure (read5 198 true .closed) := by decide +kernel
theorem read_203 : parseFrame (measure5 203 1 2) = .measure (read5 203 true .closed) := by decide +kernel

/-- Slot 5 STALE, with a record of the current epoch 201 in its ring. -/
def stale5 : State := stream5 .stale [read5 201 true .closed]

/-- The same in RUN, with a record of C + 3 stored while it was HOLDOVER (R63). -/
def ahead5 : State := stream5 .stale [read5 204 true .closed]

theorem stale5_running : Running stale5 := by unfold Running; decide +kernel

/-- At C 201 and L 4: 204 is the first EARLY epoch, 197 the last LATE one, and 201, 203 and 198 lie in the window; 204 is
a DUPLICATE where it is held, and 206, beyond C + 4, is EARLY in any case. -/
theorem witness_MeasureRefusedByEpoch :
    parseFrame (measure5 204 0 2) = .measure (read5 204 false .closed) ∧
    parseFrame (measure5 197 0 2) = .measure (read5 197 false .closed) ∧
    parseFrame (measure5 201 0 2) = .measure (read5 201 false .closed) ∧ Running stale5 ∧
    (∀ i ∈ allQuantities.filterMap (mapIndex stale5.slots[5].words), i < 4) ∧ stale5.port.fieldUp = true ∧
    lookup 3120 stale5 = some 5 ∧ stale5.slots[5].stream = .stale ∧ stale5.clock.state = .run ∧
    allowanceL stale5.settings = 4 ∧ 2 < serialDiff 201 204 ∧ serialDiff 201 197 < 1 - 4 ∧ serialDiff 201 201 ≤ 2 ∧
    (ringRecord stale5.slots[5].ring 204).isSome = false ∧ (ringRecord stale5.slots[5].ring 201).isSome = true ∧
    (ringRecord ahead5.slots[5].ring 204).isSome = true ∧ serialDiff 201 204 ≤ 4 ∧ 4 < serialDiff 201 206 :=
  ⟨read_204, read_197, read_201, stale5_running, by decide +kernel⟩

theorem witness_MeasureAcceptedIsStored :
    parseFrame (measure5 198 1 2) = .measure (read5 198 true .closed) ∧
    parseFrame (measure5 203 1 2) = .measure (read5 203 true .closed) ∧ Running stale5 ∧
    lookup 3120 stale5 = some 5 ∧ stale5.port.fieldUp = true ∧
    serialDiff 201 198 ≤ 2 ∧ 1 - 4 ≤ serialDiff 201 198 ∧ serialDiff 201 203 ≤ 2 ∧ 1 - 4 ≤ serialDiff 201 203 ∧
    (ringRecord stale5.slots[5].ring 198).isSome = false ∧ (ringRecord stale5.slots[5].ring 203).isSome = false ∧
    (read5 198 true .closed).channels.length = 4 ∧ 64 ≤ (measure5 198 1 2).length ∧
    (measure5 198 1 2).length ≤ 2560 := ⟨read_198, read_203, stale5_running, by decide +kernel⟩

theorem witness_ClearStreamResult :
    Serving failing ∧ 64 ≤ (64 : Byte).toNat ∧ (63 : SlotNo).val = (63 : Byte).toNat ∧
    failing.slots[63].entry ≠ .valid ∧ (10 : SlotNo).val = (10 : Byte).toNat ∧ failing.slots[10].entry = .valid :=
  ⟨failing_serving, by decide +kernel⟩

theorem witness_TickNumbersClock : Running failing ∧ failing.clock.state ≠ .unset ∧ Running up ∧ up.clock.state = .unset ∧
    up.clock.announce = none := ⟨failing_running, by decide +kernel, up_running, rfl, rfl⟩

/-- A slot that is not counted, one that stays short of its limit of 3, and one that reaches it. -/
theorem witness_TickCountsStale_piece :
    failing.slots[0].entry ≠ .valid ∧ failing.slots[5].entry = .valid ∧ failing.slots[5].stream = .locked ∧
    staleLimit failing.slots[5].words = 3 ∧ ¬3 ≤ min 255 (failing.slots[5].staleCount + 1) ∧
    3 ≤ min 255 ((failing.modSlot 5 (fun x => { x with staleCount := 2 })).slots[5].staleCount + 1) := by decide +kernel

theorem witness_TickCountsStale : Running failing ∧ failing.clock.state ≠ .unset ∧
    ({ up with clock := { up.clock with announce := some 40000 } } : State).clock.announce ≠ none :=
  ⟨failing_running, by decide +kernel⟩

/-- A tick that is a clock step, and ticks that are not with a closure mark that is NONE, behind, and ahead. -/
theorem witness_TickClosesEpochs :
    (clocked 201).clock.state ≠ .unset ∧
    ({ (clocked 201).clock with announce := some 205 } : EpochClock).announce ≠ some (201 + 1) ∧
    (clocked 201).closureMark = none ∧ 0 < serialDiff 197 (202 - 4) ∧ serialDiff 198 (202 - 4) ≤ 0 ∧
    serialDiff 199 (202 - 4) ≤ 0 ∧ ({ stale5 with closureMark := some 201 } : State).closureMark = some 201 := by
  decide +kernel

/-- R58: a record at the mark goes, and one for the epoch after it stays. -/
theorem test_discardBehind :
    (([200, 201] : List Epoch).map (fun mark =>
      (ringRecord (doWork { stale5 with closureMark := some mark } .discardBehind).slots[5].ring 201).isSome)) =
    [true, false] := by decide +kernel

theorem witness_ClockMovesOnlyAtTicks : ∃ t, exec .suspend up = .next t := ⟨_, rfl⟩

theorem witness_MagnitudeIsFloorRoot :
    (-32767 : Int) ≤ (⟨-32767, 32767⟩ : Phasor).re ∧ (⟨-32767, 32767⟩ : Phasor).im ≤ 32767 := by decide

/-- The four cases of R94, and the profile and currents that make T 53804. -/
theorem witness_ThresholdRestrains :
    (downed ⟨1254, -303⟩ ⟨457, -83⟩).upstream = some ⟨1254, -303⟩ ∧
    (∀ d ∈ (downed ⟨1254, -303⟩ ⟨457, -83⟩).downstream, d ≠ none) ∧
    ({ downed ⟨1254, -303⟩ ⟨457, -83⟩ with upstream := none } : PhaseInputs).upstream = none ∧
    ¬(∀ d ∈ [some (⟨0, 0⟩ : Phasor), none], d ≠ none) ∧
    validateProfile #v[0x003F0FFF, 1, 0x00010001, 0x00010004, 0, 0, 1, 0, 0, 1, 1, 1] = .good ∧
    (15 : Nat) ≤ 4095 ∧ (1254 : Int) ≤ 32767 ∧ (-32767 : Int) ≤ -303 := by decide +kernel

theorem witness_AccumulatorMoves :
    (downed ⟨1254, -303⟩ ⟨457, -83⟩).downstream = [⟨700, -200⟩, ⟨457, -83⟩].map some ∧
    threshold profile 15 (mag ⟨1254, -303⟩) = 75 ∧
    75 < mag (difference ⟨1254, -303⟩ [⟨700, -200⟩, ⟨457, -83⟩]) ∧
    mag (difference ⟨1200, -300⟩ [⟨700, -200⟩, ⟨460, -90⟩]) ≤ 73 ∧ threshold profile 15 (mag ⟨1200, -300⟩) = 73 := by
  decide +kernel

theorem witness_OpenCountMoves :
    mag ⟨3, 0⟩ < Prof.openFloor profile ∧ Prof.loadFloor profile ≤ 1210 ∧ mag ⟨1140, -1520⟩ < Prof.vCollapse profile ∧
    Prof.vHealthy profile ≤ mag ⟨4290, -5720⟩ ∧ ¬Prof.vHealthy profile ≤ mag ⟨3120, -4160⟩ ∧
    Prof.openPersist profile = 6 ∧
    (evalPhase profile false 305 (parted ⟨4290, -5720⟩ 1210) ⟨0, 4, [], none⟩).state.openCount = 5 := by decide +kernel

/-- R105: one epoch short of open_persist OPEN is not confirmed, nor is it in HOLDOFF. -/
theorem test_open_305 :
    (evalPhase profile false 305 (parted ⟨4290, -5720⟩ 1210) ⟨0, 4, [], none⟩).opened = false := by decide +kernel

theorem witness_OutcomeWindowDecides :
    (downed ⟨1254, -303⟩ ⟨426, -75⟩).upstream = some ⟨1254, -303⟩ ∧
    (downed ⟨1254, -303⟩ ⟨426, -75⟩).downstream = [⟨700, -200⟩, ⟨426, -75⟩].map some ∧
    ([⟨700, -200⟩, ⟨426, -75⟩] : List Phasor) ≠ [] ∧
    ({ parted ⟨0, 0⟩ 0 with upstream := none } : PhaseInputs).upstream = none ∧
    ({ parted ⟨0, 0⟩ 0 with downstream := [] } : PhaseInputs).downstream = [] ∧
    none ∈ ({ parted ⟨0, 0⟩ 0 with downstream := [some ⟨1, 1⟩, none] } : PhaseInputs).downstream := by decide +kernel

/-- The boundary that log entry 31 names: an entry 32767 epochs before the new outcome stays in the window, and one
exactly 32768 epochs away, whose serial difference is −32768 either way, leaves it. -/
theorem witness_OutcomeWindowDecides_boundary :
    serialDiff 0 32768 = -32768 ∧ serialDiff 32768 0 = -32768 ∧ 0 < serialDiff 1 32768 ∧
    (evalPhase profile false 32768 (downed ⟨1254, -303⟩ ⟨426, -75⟩) ⟨0, 0, [seen 0 true, seen 1 true], none⟩).state.window =
      [seen 1 true, seen 32768 false] := by decide +kernel

theorem witness_EventCommandsResult :
    (sectionThree .holdoff).sections[3].mode = .holdoff ∧ (sectionThree .holdoff).sections[3].holdoff = 0 ∧
    failing.clock.state ≠ .unset ∧ failing.slots[13].entry = .valid ∧ failing.slots[13].stream = .locked ∧
    staleLimit (streamWords 3013) ≤ 3 ∧ serialDiff 844 851 < (Prof.confirmTimeout profile : Int) ∧
    (Prof.retryEpochs profile : Int) ≤ serialDiff 848 851 ∧ 1 < Prof.attempts profile ∧
    activeWords 3 failing = profile := by decide +kernel

/-- A record of slot 10 for epoch 850, so that section 3 finds its next epoch complete. -/
def complete850 : State :=
  failing.modSlot 10 (fun x =>
    { x with ring := storeRecord (buildRecord x.words { read5 850 true .unstated with stream := 3010 }) x.ring })

theorem witness_IncompleteEvaluationResult :
    (∀ m ∈ [SectionMode.holdoff, .watch, .blind], (sectionThree m).sections[3].mode = m ∧ m.evaluates = true) ∧
    SectionMode.arming.evaluates = false ∧ 0 ≤ serialDiff failing.sections[3].next 850 ∧
    ¬0 ≤ serialDiff failing.sections[3].next 849 ∧ epochComplete 3 850 failing = false ∧
    epochComplete 3 850 complete850 = true ∧ failing.sections[3].entry = .valid ∧
    Prof.blindAfter (activeWords 3 failing) ≤ min 255 (1 + 1) ∧ min 255 (0 + 1) < Prof.blindAfter (activeWords 3 failing) ∧
    ((sectionThree .holdoff).modSection 3 (fun x => { x with holdoff := 2 })).sections[3].holdoff = 2 ∧
    ((sectionThree .holdoff).modSection 3 (fun x => { x with holdoff := 1 })).sections[3].holdoff = 1 := by decide +kernel

/-- R86: the forced evaluation at the closure of 850, not complete for section 3, is INCOMPLETE, and where a record makes
850 complete it is a complete evaluation. -/
theorem test_forced : ([failing, complete850].map (fun s =>
    ((doWork s (.force 850 3)).sections[3].next, (doWork s (.force 850 3)).sections[3].incomplete))) =
    [(851, 1), (851, 0)] := by decide +kernel

/-- A section with a complete next epoch, and one without. -/
theorem witness_CompleteEvaluationResult :
    (∀ m ∈ [SectionMode.holdoff, .watch, .blind], (sectionThree m).sections[3].mode = m ∧ m.evaluates = true) ∧
    members complete850.sections[3].words = [10] ∧
    (∃ r, ringRecord complete850.slots[10].ring 850 = some r ∧ r.faulty = false ∧ ∀ q ∈ allQuantities, r.get q ≠ .absent) ∧
    ringRecord failing.slots[10].ring 850 = none := by decide +kernel

/-- R93: a section with profile 0 while the level is NORMAL and 7 while it is ELEVATED. -/
def twoProfiles (level : Hazard) : State :=
  { failing.modSection 3 (fun x => { x with words := x.words.set 3 0x00010700 }) with hazard := level }

theorem witness_CompleteEvaluationResult_profile :
    (twoProfiles .normal).hazard = .normal ∧
    ((twoProfiles .normal).sections[3].words[3].extractLsb' 0 8).toNat = (0 : ProfileNo).val ∧
    ((twoProfiles .elevated).sections[3].words[3].extractLsb' 8 8).toNat = (7 : ProfileNo).val := by decide +kernel

theorem test_activeProfile : [Hazard.normal, .elevated].map (fun h => activeProfile 3 (twoProfiles h)) = [0, 7] := by
  decide +kernel

/-- Section 3 in BLIND with SIGHT_LOSS set, and the record that it caused HELD. -/
def blindThree : State :=
  { (recordThree { held with cause := .sightLoss }).modSection 3 (fun x => { x with mode := .blind }) with
    conds := failing.conds.set 3 { failing.conds[3] with sightLoss := some ⟨.isolate, 0, .normal⟩ } }

theorem witness_CompleteEvaluationResult_blind :
    blindThree.sections[3].mode = .blind ∧ blindThree.conds[3].sightLoss ≠ none ∧ blindThree.actions[3].state = .held ∧
    blindThree.actions[3].cause = .sightLoss ∧ (sectionThree .blind).actions[3].state ≠ .held := by decide +kernel

/-- A section in ARMING whose switch slot reports CLOSED arms; with it UNKNOWN it does not. -/
theorem witness_ArmingTestResult :
    (sectionThree .arming).sections[3].mode = .arming ∧ members (sectionThree .arming).sections[3].words = [10] ∧
    (sectionThree .arming).slots[10].entry = .valid ∧ (sectionThree .arming).slots[10].stream = .locked ∧
    switchSlot (sectionThree .arming).sections[3].words = some 13 ∧ (sectionThree .arming).slots[13].stream = .locked ∧
    (sectionThree .arming).slots[13].position ≠ .closed ∧
    ((sectionThree .arming).modSlot 13 (fun x => { x with position := .closed })).slots[13].position = .closed ∧
    Prof.holdoffEpochs (activeWords 3 (sectionThree .arming)) = 3 ∧
    Prof.holdoffEpochs (profile.set 6 0x00000002) = 0 ∧
    (recordThree { held with state := .confirmed }).actions[3].state = .confirmed := by decide +kernel

/-- `failing` with the member slot 10 of section 3 ACQUIRING after it was locked, and MEMBER_RESYNC set or not. -/
def resyncing (kind : Option Raised) : State :=
  { failing.modSlot 10 (fun x => { x with stream := .acquiring }) with
    conds := failing.conds.set 3 { failing.conds[3] with memberResync := kind } }

/-- The MEMBER_RESYNC test: a member resyncing; none, with the kind clear and set, the HELD record caused by it or not;
and a section that is not tested. -/
theorem witness_ArmingTestResult_resync :
    (resyncing none).sections[3].mode.evaluates = true ∧
    (∃ m ∈ members (resyncing none).sections[3].words, (resyncing none).slots[m].entry = .valid ∧
      (resyncing none).slots[m].stream = .acquiring ∧ (resyncing none).slots[m].everLocked = true) ∧
    (∀ m ∈ members failing.sections[3].words, failing.slots[m].stream ≠ .acquiring) ∧
    failing.conds[3].memberResync = none ∧ (resyncing (some ⟨.isolate, 0, .normal⟩)).conds[3].memberResync ≠ none ∧
    (recordThree { held with cause := .memberResync }).actions[3].cause = .memberResync ∧
    (sectionThree .latched).sections[3].mode.evaluates = false := by decide +kernel

/-- R125, R129: with the member LOCKED the kind clears with cause SELF. -/
theorem test_memberResync_clears : (doWork { failing with conds := (resyncing (some ⟨.report, 0, .normal⟩)).conds }
    (.resyncTest 3)).report.queue.map (fun r => r.detail) = [.conditionCleared .memberResync noPhases .self] := by
  decide +kernel

theorem witness_SwitchOpenResult :
    failing.sections[3].mode.evaluates = true ∧ failing.actions[3].state ≠ .noAction ∧ failing.actions[3].state ≠ .held ∧
    failing.sections[1].mode.evaluates = true ∧ failing.actions[1].state = .noAction ∧
    (sectionThree .latched).sections[3].mode.evaluates = false ∧
    (sectionThree .deenergized).sections[3].mode = .deenergized := by decide +kernel

theorem failing_actions : ActionsHold failing := by constructor <;> decide +kernel

/-- One record aimed at slot 13 and none at slot 12; a section in HOLDOFF, WATCH or BLIND with a live condition and a
HELD record of its cause, and one without. -/
theorem witness_SwitchOpenResult_confirm :
    ActionsHold failing ∧ failing.actions[3].state = .sent ∧ failing.actions[3].target = 13 ∧
    (∀ j : SectionNo, (failing.actions[j].state = .pending ∨ failing.actions[j].state = .sent) → j = 3) ∧
    blindThree.actions[3].state = .held ∧ blindThree.actions[3].cause = .sightLoss ∧
    blindThree.conds[3].sightLoss ≠ none ∧ failing.conds[3].sightLoss = none ∧ failing.conds[3].memberResync = none ∧
    fillingFor 3 failing = none := ⟨failing_actions, by decide +kernel⟩

/-- R83, R129, R141, R89: the records of `blindThree` as section 3 leaves BLIND for LATCHED. -/
theorem test_leave_records : (latchNotice 3 blindThree).report.queue.map (fun r => r.detail) =
    [.conditionCleared .sightLoss noPhases .leftService, .actionCancelled .sightLoss .liveCleared 0,
     .sectionState .blind .latched .latch 850] := by decide +kernel

/-- R147, R80: the OPEN report of slot 13 confirms the record of section 3 and latches the section. -/
theorem test_confirm :
    (reportOpen 13 { failing with order := [0, 0] }).sections[3].mode = .latched ∧
    (reportOpen 13 { failing with order := [0, 0] }).actions[3].state = .confirmed := by decide +kernel

/-- `failing` with the record of section 1 SENT to slot 13 too, and the choices of order given. -/
def twoSent (order : List Nat) : State :=
  { failing with actions := failing.actions.set 1 failing.actions[3], order := order }

/-- The sections of the records queued at an OPEN report of slot 13. -/
def openReported (order : List Nat) : List Originator :=
  (reportOpen 13 (twoSent order)).report.queue.map (fun r => r.origin)

/-- The work on the records of `twoSent` that an OPEN report of slot 13 confirms, and its premise. -/
theorem witness_SwitchOpenResult_works : ActionsHold (twoSent []) ∧
    (∀ n : SectionNo, ((twoSent []).actions[n].state = .pending ∨ (twoSent []).actions[n].state = .sent) ∧
      (twoSent []).actions[n].target = 13 ↔ n = 1 ∨ n = 3) ∧
    ConfirmsThen (fun n => (twoSent []).actions[n].origins)
      (allSections.filter (fun n => ((twoSent []).actions[n].state = .pending ∨ (twoSent []).actions[n].state = .sent) ∧
        (twoSent []).actions[n].target = 13)) (confirmThread [1, 3] (twoSent [])).1 :=
  ⟨by constructor <;> decide +kernel, by decide +kernel,
    (by decide +kernel : [1, 3] = allSections.filter (fun n =>
        ((twoSent []).actions[n].state = .pending ∨ (twoSent []).actions[n].state = .sent) ∧
        (twoSent []).actions[n].target = 13)) ▸ (confirmThread_spec [1, 3] (twoSent [])).1⟩

/-- R149, R171: the SECTION_STATE of section 1, latched with the first record, before or after the ACTION_CONFIRMED of
section 3, whose own SECTION_STATE is last. -/
theorem test_confirm_orders :
    openReported [0, 0, 0] = [.sec 1, .sec 1, .sec 3, .sec 3] ∧
    openReported [1, 0, 0] = [.sec 1, .sec 3, .sec 1, .sec 3] := by decide +kernel

theorem witness_RestoreResult :
    Serving (sectionThree .latched) ∧ (sectionThree .latched).sections[3].mode = .latched ∧
    (3 : SectionNo).val = (3 : Byte).toNat ∧ 32 ≤ (32 : Byte).toNat ∧ (31 : SectionNo).val = (31 : Byte).toNat ∧
    (sectionThree .latched).sections[31].mode ≠ .latched :=
  ⟨⟨by unfold Running; decide +kernel, by decide +kernel, by decide +kernel⟩, by decide +kernel⟩

/-- RESTORE with DOWNED set and a HELD action of that cause, and without. -/
theorem witness_RestoreResult_records :
    (recordThree held).actions[3].state = .held ∧ (recordThree held).actions[3].cause = .downed ∧
    (recordThree held).conds[3].downed ≠ none ∧ failing.actions[3].state = .sent := by decide +kernel

theorem witness_SetHazardResult :
    Serving failing ∧ 2 ≤ (2 : Byte).toNat ∧ Hazard.normal.code = (0 : Byte).toNat ∧ Hazard.elevated.code = (1 : Byte).toNat ∧
    failing.hazard = .normal ∧ hazardWaiting failing = none ∧ hazardComing.mode ≠ .starting ∧
    hazardComing.writing = none ∧ hazardComing.todo = [{ code := 3, params := [1] }] ∧
    hazardWaiting { failing with executing := some hazardComing } ≠ none :=
  ⟨failing_serving, by decide +kernel⟩

theorem witness_ClearConditionsResult :
    Serving failing ∧ 32 ≤ (32 : Byte).toNat ∧ 64 ≤ (64 : Byte).toNat ∧ (31 : SectionNo).val = (31 : Byte).toNat ∧
    (63 : Byte).toNat < 64 ∧ (recordThree held).actions[3].state = .held ∧ (recordThree held).actions[3].cause = .downed ∧
    (2 : Byte).getLsbD 1 = true ∧ failing.actions[3].state = .sent := ⟨failing_serving, by decide +kernel⟩

/-- Under `profile` DOWNED isolates, SIGHT_LOSS is only recorded, and BACKUP_CALLED is reported (held positions). -/
theorem witness_RisingKindResult :
    failing.sections[1].entry = .valid ∧ failing.conds[1].get .downed = none ∧ failing.conds[1].get .sightLoss = none ∧
    failing.profiles[0].words[7].getLsbD Kind.downed.bit = true ∧ switchSlot failing.sections[1].words = some 5 ∧
    failing.actions[1].state = .noAction ∧
    failing.profiles[0].words[7].getLsbD Kind.sightLoss.bit = false ∧
    failing.profiles[0].words[8].getLsbD Kind.sightLoss.bit = false ∧
    failing.profiles[0].words[8].getLsbD Kind.actionFailed.bit = true ∧ failing.sections[0].entry ≠ .valid ∧
    failing.conds[3].get .downed ≠ none ∧ failing.conds[3].downedPhases = ⟨false, true, false⟩ ∧
    failing.mode = .active ∧ failing.sections[1].words[3].getLsbD 16 = true ∧
    (failing.modSection 1 (fun x => { x with words := x.words.set 3 0 })).sections[1].words[3].getLsbD 16 = false ∧
    failing.conds[3].get .opened = none ∧ failing.actions[3].state ≠ .noAction := by decide +kernel

/-- R127, R137: DOWNED rising at a section in a SUSPENDED part. -/
theorem test_rising_records :
    (raiseKind 1 .downed ⟨true, false, false⟩ 0 { failing with mode := .suspended }).report.queue.map (fun r => r.detail) =
    [.conditionSet .downed ⟨true, false, false⟩ ⟨.isolate, 0, .normal⟩ false,
     .actionHeld .downed 5 .notActive] := by decide +kernel

theorem witness_SetPermitResult :
    Serving failing ∧ 32 ≤ (32 : Byte).toNat ∧ 2 ≤ (2 : Byte).toNat ∧ (31 : SectionNo).val = (31 : Byte).toNat ∧
    failing.sections[31].entry ≠ .valid ∧ (3 : SectionNo).val = (3 : Byte).toNat ∧ failing.sections[3].entry = .valid ∧
    (1 : Byte).toNat < 2 := ⟨failing_serving, by decide +kernel⟩

theorem witness_SuspendResumeResult :
    Serving failing ∧ failing.actions[3].state = .sent ∧ Serving up ∧
    ¬∃ n : SectionNo, up.actions[n].state = .pending ∨ up.actions[n].state = .sent :=
  ⟨failing_serving, by decide +kernel, up_serving, by decide +kernel⟩

theorem witness_ActionTimeoutEscalates :
    Running failing ∧ ActionsHold failing ∧ failing.clock.state ≠ .unset ∧ failing.actions[3].state = .sent ∧
    failing.actions[3].firstSent = some 843 ∧
    (Prof.confirmTimeout (activeWords 3 failing) : Int) ≤ serialDiff 843 failing.clock.c ∧
    backupSection failing.sections[3].words = some 1 ∧ failing.sections[1].entry = .valid ∧
    switchSlot failing.sections[1].words ≠ none ∧ failing.actions[1].state ≠ .failed ∧
    backupSection failing.sections[1].words = none :=
  ⟨failing_running, failing_actions, by decide +kernel⟩

/-- `failing` with sections 0 and 2 VALID too and a backup chain 3, 1, 0, 2, the records of some of them FAILED. -/
def chain (ahead : List SectionNo) : State :=
  let entries := ((failing.sections.set 1 (sectionIn (sectionWords 5 0) .watch 850)).set 0
    (sectionIn (sectionWords 5 2) .watch 850)).set 2 (sectionIn (sectionWords 5 255) .watch 850)
  { failing with sections := entries
                 actions := ahead.foldl (fun (l : Vector ActionRecord 32) (n : SectionNo) =>
                   l.set n { held with state := .failed }) failing.actions }

theorem chain_actions : ActionsHold (chain [1, 0, 2]) := by constructor <;> decide +kernel

/-- The walk past one, two and three FAILED backups, to a section not VALID, to one without a switch, and to none. -/
theorem witness_ActionTimeoutEscalates_hops :
    ActionsHold (chain [1, 0, 2]) ∧ (∀ n ∈ ([1, 0, 2] : List SectionNo), (chain [1, 0, 2]).sections[n].entry = .valid ∧
      switchSlot (chain [1, 0, 2]).sections[n].words ≠ none ∧ (chain [1, 0, 2]).actions[n].state = .failed) ∧
    backupSection (chain [1, 0, 2]).sections[3].words = some 1 ∧
    backupSection (chain [1, 0, 2]).sections[1].words = some 0 ∧
    backupSection (chain [1, 0, 2]).sections[0].words = some 2 ∧ backupSection failing.sections[1].words = none ∧
    (chain [1]).actions[0].state ≠ .failed ∧ (chain [1, 0]).actions[2].state ≠ .failed ∧
    failing.sections[0].entry ≠ .valid ∧ switchSlot (sectionWords 255 1) = none :=
  ⟨chain_actions, by decide +kernel⟩

/-- `failing` with the record of the backup section 1 CONFIRMED. -/
def confirmedBackup : State :=
  { failing with actions := failing.actions.set 1 { held with state := .confirmed, target := 5 } }

/-- A CONFIRMED backup that section 3 joins, evaluating and DEENERGIZED. -/
theorem witness_ActionTimeoutEscalates_confirmed :
    ActionsHold confirmedBackup ∧ confirmedBackup.actions[1].state = .confirmed ∧
    confirmedBackup.actions[3].state = .sent ∧ (3 : SectionNo) ∉ confirmedBackup.actions[1].origins ∧
    confirmedBackup.sections[3].mode.evaluates = true ∧ (sectionThree .deenergized).sections[3].mode = .deenergized :=
  ⟨by constructor <;> decide +kernel, by decide +kernel⟩

/-- R152, R80: the section that joins a CONFIRMED record is latched. -/
theorem test_confirmedBackup : (after (.actionTimeout 3) confirmedBackup).sections[3].mode = .latched := by decide +kernel

/-- Two PENDING records: the ESCALATION of section 3 goes before the DOWNED of section 1. -/
def twoPending : State :=
  let first : ActionRecord := { held with state := .pending, cause := .escalation }
  let second : ActionRecord := { held with state := .pending, target := 5 }
  { failing with actions := (failing.actions.set 3 first).set 1 second }

theorem witness_SendSlotTakesHighestRank :
    twoPending.mode = .active ∧ twoPending.port.actionList.length < 4 ∧ twoPending.actions[3].state = .pending ∧
    (∀ j : SectionNo, twoPending.actions[j].state = .pending → j ≠ 3 →
      twoPending.actions[3].cause.rank < twoPending.actions[j].cause.rank ∨
      (twoPending.actions[3].cause.rank = twoPending.actions[j].cause.rank ∧ 3 < j)) ∧
    twoPending.actions[3].attempts < Prof.attempts (activeWords 3 twoPending) ∧
    (∀ n : SectionNo, failing.actions[n].state ≠ .pending) ∧
    Prof.attempts (activeWords 3 twoPending) ≤ failing.actions[3].attempts := by decide +kernel

theorem witness_ActionFramesOnlyInActive :
    (∃ t, exec .suspend up = .next t) ∧ ({ up with mode := .suspended } : State).mode ≠ .active :=
  ⟨⟨_, rfl⟩, by decide +kernel⟩

/-- Buffer 0 FILLING for section 3, buffer 1 FROZEN, buffers 2 and 3 FREE. -/
def capturing : State :=
  let record : EvalRecord := { epoch := 850, phases := none }
  let b : Capture :=
    { state := .filling, sec := 3, triggerEpoch := 850, trigger := .downedPickup, profile := 0, short := false, pre := 0
      post := 1, records := [record] }
  { failing with captures := (failing.captures.set 0 b).set 1 { b with state := .frozen, sec := 9 } }

/-- `capturing` with seven post-trigger records in buffer 0. -/
def seven : State :=
  let full : Capture := { capturing.captures[0] with post := 7, records := List.replicate 7 ⟨850, none⟩ }
  { capturing with captures := capturing.captures.set 0 full }

/-- The FILLING buffer of section 3 before its second and its eighth post-trigger record, and a section without one. -/
theorem witness_PickupTakesLowestFree_add :
    (∀ j : CaptureNo, capturing.captures[j].state = .filling → 0 ≤ j) ∧ capturing.captures[0].post < 7 ∧
    7 ≤ seven.captures[0].post ∧ (∀ i : CaptureNo, seven.captures[i].state = .filling → seven.captures[i].sec ≠ 1) ∧
    (List.replicate 7 ({ epoch := 850, phases := none } : EvalRecord)).length = 7 := by decide +kernel

/-- R163, R165: the eighth post-trigger record freezes the buffer. -/
theorem test_capture_freezes :
    (captureAdd 3 { epoch := 851, phases := none } seven).report.queue.map (fun r => r.detail) =
    [.captureFrozen 0 850 .downedPickup false 0 8] := by decide +kernel

/-- R162, R84: another section's evaluation falls between two of a run. -/
theorem test_evaluations_between :
    interleave 2 [[Work.evaluate 0, .evaluate 0], [.evaluate 1]] = [.evaluate 0, .evaluate 1, .evaluate 0] := by
  decide +kernel

theorem witness_PickupTakesLowestFree :
    capturing.captures[0].state = .filling ∧ capturing.captures[0].sec = 3 ∧
    (∀ i : CaptureNo, capturing.captures[i].state = .filling → capturing.captures[i].sec ≠ 1) ∧
    capturing.captures[2].state = .free ∧ (∀ j : CaptureNo, capturing.captures[j].state = .free → 2 ≤ j) ∧
    (∀ i : CaptureNo, ({ capturing with captures := Vector.replicate 4 capturing.captures[1] } : State).captures[i].state ≠
      .free) := by decide +kernel

theorem witness_ReleaseCaptureResult :
    Serving capturing ∧ 4 ≤ (4 : Byte).toNat ∧ (0 : CaptureNo).val = (0 : Byte).toNat ∧
    capturing.captures[0].state = .filling ∧ (3 : CaptureNo).val = (3 : Byte).toNat ∧
    capturing.captures[3].state ≠ .filling :=
  ⟨⟨by unfold Running; decide +kernel, by decide +kernel, by decide +kernel⟩, by decide +kernel⟩

/-- Counts of 0, 1, 64 and 65; an unmapped address; a FILLING capture; and words that a READ returns. -/
theorem witness_ReadResult :
    ¬1 ≤ (0 : Byte).toNat ∧ 1 ≤ (1 : Byte).toNat ∧ (64 : Byte).toNat ≤ 64 ∧ ¬(65 : Byte).toNat ≤ 64 ∧
    readWord 0x0280 capturing = none ∧ readWord 0x027F capturing ≠ none ∧ capturing.captures[0].state = .filling ∧
    capturing.captures[1].state ≠ .filling ∧ inFillingCapture 0x1800 capturing = true ∧
    inFillingCapture 0x187F capturing = true ∧ inFillingCapture 0x17FF capturing = false ∧
    inFillingCapture 0x1880 capturing = false ∧ readWord 0x0000 capturing = some 0x402 := by decide +kernel

/-- 12.7: the first status word of a VALID LOCKED slot that has been locked and holds no record: 3, 2 in 7:5, bit 10. -/
theorem test_readWord_status : readWord 0x1114 failing = some 0x00000443 := by decide +kernel

/-- 12.7: RUN in 17:16, ACTIVE in 26:25, no closure mark; and buffer 0 FILLING (1) for section 3 with 0 records before
the trigger and 1 from it on. -/
theorem test_readWord_device : readWord 0x1001 failing = some 0x02010000 := by decide +kernel
theorem test_readWord_capture : readWord 0x1800 capturing = some 0x01000301 := by decide +kernel

/-- A record with values in a capture and one without. -/
theorem witness_ReadResult_records :
    (capturing.captures[0].records[0]?.bind EvalRecord.phases) = none ∧
    ({ capturing.captures[0] with records := [⟨850, some ⟨⟨none, none, none, 0, 0⟩, ⟨some 1, none, none, 0, 0⟩,
      ⟨some 1, some 1, some 20, 3, 1⟩⟩⟩] } : Capture).records[0]?.bind EvalRecord.phases ≠ none := by decide +kernel

/-- An address and a length for each clause, at the ends of the regions. -/
theorem witness_WriteTestsInOrder :
    Serving failing ∧ allowanceL (settingsOf [0x002, 0, 0, 0]) = 0 ∧ 12 < allowanceL (settingsOf [0xD02, 0, 0, 0]) ∧
    (0x0105 - 0x0100) % 6 ≠ 0 ∧ 0x027F < 0x027A + 7 - 1 ∧ (0x0355 - 0x0300) % 12 ≠ 0 ∧ 0x035F < 0x0354 + 13 - 1 ∧
    (0x0401 - 0x0400) % 6 ≠ 0 ∧ 0x04BF < 0x04BA + 7 - 1 ∧ profileInUse 0 failing = true ∧
    (failing.actions[3].state = .pending ∨ failing.actions[3].state = .sent) ∧ (0x040C - 0x0400) / 6 ≤ 3 ∧
    3 ≤ (0x040C + 12 - 1 - 0x0400) / 6 ∧ ((0x0400, 6, 32) : Nat × Nat × Nat) ∈ [(0x0100, 6, 64), (0x0300, 12, 8), (0x0400, 6, 32)] ∧
    (sectionWords 5 255).toList.length % 6 = 0 ∧ 30 * 6 + ((sectionWords 5 255).toList ++ (sectionWords 5 1).toList).length ≤ 32 * 6 ∧
    failing.actions[30].state = .noAction ∧ failing.actions[31].state = .noAction ∧
    profileInUse 6 failing = false ∧ profileInUse 7 failing = false := ⟨failing_serving, by decide +kernel⟩

theorem witness_SettingsWriteResult :
    Serving up ∧ 1 ≤ allowanceL #v[0x100, 0, 0, 0] ∧ allowanceL #v[0xC00, 0, 0, 0] ≤ 12 := ⟨up_serving, by decide +kernel⟩

theorem witness_ProfileWriteResult :
    Serving failing ∧ profileInUse 7 failing = false ∧ validateProfile profile = .good :=
  ⟨failing_serving, by decide +kernel⟩

theorem witness_StreamWriteResult :
    Serving failing ∧
    validateStream 63 (failing.modSlot 63 (fun x => { x with words := streamWords 3063, entry := .loading })) = .good ∧
    validateStream 63 (failing.modSlot 63 (fun x => { x with words := streamWords 3010, entry := .loading })) =
      .duplicateId :=
  ⟨failing_serving, by decide +kernel⟩

theorem witness_SectionWriteResult :
    Serving failing ∧ failing.actions[1].state ≠ .pending ∧ failing.actions[1].state ≠ .sent ∧
    failing.sections[1].entry = .valid ∧ failing.sections[31].entry ≠ .valid ∧
    validateSection 1 (failing.modSection 1 (fun x => { x with words := sectionWords 5 255 })) = .good ∧
    validateSection 1 (failing.modSection 1 (fun x => { x with words := sectionWords 5 1 })) = .badBackup := ⟨failing_serving, by decide +kernel⟩

/-- A section in WATCH with a FILLING capture and its action HELD. -/
theorem witness_SectionWriteResult_leaving :
    ({ capturing with actions := (recordThree held).actions } : State).actions[3].state = .held ∧
    fillingFor 3 capturing = some 0 ∧ capturing.sections[3].mode.evaluates = true ∧ capturing.sections[3].entry = .valid ∧
    (sectionThree .latched).sections[3].mode.evaluates = false := by decide +kernel

theorem witness_RestartResult : Serving failing ∧ failing.actions[3].state = .sent ∧ Serving up ∧
    ¬∃ n : SectionNo, up.actions[n].state = .pending ∨ up.actions[n].state = .sent := witness_SuspendResumeResult

theorem witness_IdentifyResult :
    Serving up ∧ up.imageStatus = .noImage ∧
    ({ up with imageStatus := .applied, imageIdentity := some 41 } : State).imageIdentity = some 41 :=
  ⟨up_serving, rfl, rfl⟩

theorem one_read : parseFrame (frame 6 0 0 [0, 9, 1, 9, 0, 0]) =
    .mgmt ((9 : BitVec 10).setWidth 16) [2, 0x4E, 0x5A, 0x26, 0, 9] [⟨9, []⟩] := by decide +kernel

theorem witness_MgmtFrameIsAnswered :
    Running up ∧ up.executing = none ∧ up.port.replyHold = none ∧
    ({ up.port with intake := [frame 6 0 0 [0, 9, 1, 9, 0, 0]] } : PortState).intake =
      frame 6 0 0 [0, 9, 1, 9, 0, 0] :: [] ∧
    Running { up with executing := some hazardComing } ∧ hazardComing.writing = none ∧
    hazardComing.todo = ⟨3, [1]⟩ :: [] ∧ hazardComing.mode ≠ .starting ∧ (⟨3, [1]⟩ : RawRequest).code ≠ 2 ∧
    ({ hazardComing with todo := [], mode := .starting } : MgmtExec).todo = [] ∧
    ([1, 2, 3] : List Byte).length % 4 ≠ 2 ∧ writeRefusal 0x0105 [1] up = some .badAddress ∧
    (bytes16 0x0105 ++ (([1] : List Word).map bytes32).flatten).length = 6 ∧
    (0x027A : BitVec 16).toNat = 0x0100 + 6 * (63 : SlotNo).val :=
  ⟨up_running, rfl, rfl, rfl, by unfold Running; decide +kernel, by decide +kernel⟩

/-- A request and the command that it is; requests of a wrong length and of no known code; writes of the settings, a
profile, a section and several sections that no test refuses; and one that has come to a section whose action is in
flight. -/
theorem witness_MgmtFrameIsAnswered_requests :
    up.mode ≠ .starting ∧ requestCarried (.setHazard 1) = some ⟨3, [1]⟩ ∧
    requestCarried (.read 0x1003 1) = some ⟨1, [0x10, 0x03, 1]⟩ ∧ requestCarried (.identify 9) = some ⟨12, []⟩ ∧
    (⟨1, [0, 0]⟩ : RawRequest).params.length ≠ 3 ∧ (⟨12, [0]⟩ : RawRequest).params.length ≠ 0 ∧ 12 < (13 : Byte).toNat ∧
    writeRefusal 0 [0x402, 0x100, 0, 0] up = none ∧ writeRefusal 0x0354 profile.toList up = none ∧
    writeRefusal 0x04BA (sectionWords 5 255).toList up = none ∧
    writeRefusal 0x0400 ((sectionWords 5 255).toList ++ (sectionWords 5 1).toList) up = none ∧
    (0x0354 : BitVec 16).toNat = 0x0300 + 12 * (7 : ProfileNo).val ∧ profileInUse 7 up = false ∧
    (0x04BA : BitVec 16).toNat = 0x0400 + 6 * (31 : SectionNo).val ∧ up.actions[31].state = .noAction ∧
    0x0412 = 0x0400 + 6 * (3 : SectionNo).val ∧ failing.actions[3].state = .sent := by decide +kernel

/-- A WRITE of the section region under way that has come to section 3, with one entry committed. -/
def comingToThree : MgmtExec :=
  { hazardComing with todo := [], writing := some { address := 0x0412, words := [1, 2], committed := 1 } }

/-- R184: it finds the action of section 3 SENT and ends BUSY. -/
theorem test_write_busy_later :
    ((after (.mgmtFrameTaken (some 1) 9) { failing with executing := some comingToThree }).executing.map
      (fun e => e.results)) = some [{ request := 2, code := .busy, data := [1] }] := by decide +kernel

/-! ## Invariants in a state with records, a capture and a failing action -/

theorem capturing_steps : ∃ t, step { capturing with pending := [.actionTimeout 3] } = .next t :=
  ⟨_, whenRunning_next _ _ (by unfold Running; decide +kernel)⟩

theorem no_writing (s : State) (h : s.executing = none) (hb : s.boot = .over) : WritesHold s :=
  ⟨fun e w t he => absurd (h ▸ he) (by simp), fun hn => absurd hb hn⟩

theorem witness_StepKeepsQueues : QueuesHold { fullQueue with pending := [.actionTimeout 3] } := by
  constructor
  case owed =>
    intro o h
    rfl
  all_goals decide +kernel

theorem witness_StepKeepsActions : ActionsHold { capturing with pending := [.actionTimeout 3] } := by
  constructor <;> decide +kernel

theorem witness_StepKeepsCaptures : CapturesHold { capturing with pending := [.actionTimeout 3] } := by
  constructor <;> decide +kernel

/-- Capturing, with outcomes in the window of phase B of section 3 and a previous difference at its limit. -/
def withWindow : State :=
  let phase : PhaseState := { acc := 65535, openCount := 255, window := [seen 65535 true, seen 2 false], prev := some 46339 }
  { capturing.modSection 3 (fun x => { x with phases := { x.phases with b := phase } }) with
    pending := [.actionTimeout 3] }

theorem witness_StepKeepsDetection : DetectionHolds withWindow := by
  constructor
  case tables =>
    constructor
    case writes => exact no_writing _ rfl rfl
    case profiles => intro n h; cases h <;> revert n <;> decide +kernel
    case free => intro e w i p k he; cases he
    all_goals decide +kernel
  case incomplete => decide +kernel
  case holdoff => decide +kernel
  case prev =>
    have all : ∀ n : SectionNo, ∀ p ∈ allPhases, ∀ q ∈ (withWindow.sections[n].phases.get p).prev, q ≤ 46339 := by
      decide +kernel
    intro n p q h
    exact all n p (by cases p <;> decide) q h
  all_goals intro n p; cases p <;> revert n <;> decide +kernel

theorem witness_StepKeepsSections : SectionsHold { capturing with pending := [.actionTimeout 3] } := by
  constructor
  case writes => exact no_writing _ rfl rfl
  all_goals decide +kernel

theorem witness_StepKeepsStreams : StreamsHold { stream5 .locked [read5 201 true .closed] with pending := [.epochRefTick 9] } := by
  constructor
  case writes => exact no_writing _ rfl rfl
  case place =>
    have all : ∀ (m : SlotNo) (p : Fin 16),
        ∀ r ∈ ({ stream5 .locked [read5 201 true .closed] with pending := [.epochRefTick 9] } : State).slots[m].ring[p],
        r.epoch.toNat % 16 = p.val := by decide +kernel
    intro m p r h; exact all m p r h
  all_goals decide +kernel

end Sys2Proof.Tests
end

/-! # The detection arithmetic: magnitudes, the restrained threshold, the open count (O24, O25, O27) -/

namespace Sys2Proof.Machine

/-! ## The square root by bits (R95) -/

/-- The invariant of the search: the root of `x` lies from `r` to just below `r + 2 ^ b`, where `b` bits are still to be
tried. -/
theorem isqrtFrom_spec (b r x : Nat) (low : r * r ≤ x) (high : x < (r + 2 ^ b) * (r + 2 ^ b)) :
    isqrtFrom b r x * isqrtFrom b r x ≤ x ∧ x < (isqrtFrom b r x + 1) * (isqrtFrom b r x + 1) := by
  induction b generalizing r with
  | zero => exact ⟨low, high⟩
  | succ b ih =>
    rw [isqrtFrom]
    split
    next taken =>
      have double : r + 2 ^ b + 2 ^ b = r + 2 ^ (b + 1) := by rw [Nat.pow_succ]; omega
      exact ih _ taken (double ▸ high)
    next refused => exact ih r low (Nat.lt_of_not_le refused)

theorem le_isqrt_iff {x : Nat} (h : x < 2 ^ 32) (k : Nat) : k ≤ isqrt x ↔ k * k ≤ x := by
  obtain ⟨low, high⟩ := isqrtFrom_spec 16 0 x (Nat.zero_le x) h
  constructor
  · intro below
    exact Nat.le_trans (Nat.mul_self_le_mul_self below) low
  · intro square
    exact Nat.le_of_lt_succ (Nat.mul_self_lt_mul_self_iff.1 (Nat.lt_of_le_of_lt square high))

/-! ## Magnitudes of phasors in range (R95) -/

/-- Both components lie in the range of a channel value, as R95 says of every phasor whose magnitude is taken. -/
def Phasor.InRange (p : Phasor) : Prop := (-32767 ≤ p.re ∧ p.re ≤ 32767) ∧ -32767 ≤ p.im ∧ p.im ≤ 32767

/-- The sum of the squares, which the model forms on integers, as a natural number. -/
def Phasor.sumSquares (p : Phasor) : Nat := p.re.natAbs * p.re.natAbs + p.im.natAbs * p.im.natAbs

theorem Phasor.coe_sumSquares (p : Phasor) : (p.sumSquares : Int) = p.re * p.re + p.im * p.im := by
  rw [sumSquares, Int.natCast_add, Int.natAbs_mul_self, Int.natAbs_mul_self]

theorem Phasor.InRange.sumSquares_le {p : Phasor} (h : p.InRange) : p.sumSquares ≤ 32767 * 32767 + 32767 * 32767 := by
  obtain ⟨⟨reLow, reHigh⟩, imLow, imHigh⟩ := h
  have re : p.re.natAbs ≤ 32767 := by omega
  have im : p.im.natAbs ≤ 32767 := by omega
  exact Nat.add_le_add (Nat.mul_le_mul re re) (Nat.mul_le_mul im im)

theorem mag_eq_isqrt (p : Phasor) : mag p = isqrt p.sumSquares := by
  rw [mag, ← p.coe_sumSquares, Int.toNat_natCast]

/-- What makes the magnitude the floor of the square root; the bounds of R95 are instances of it. -/
theorem le_mag_iff {p : Phasor} (h : p.InRange) (k : Nat) : k ≤ mag p ↔ k * k ≤ p.sumSquares := by
  have bound := h.sumSquares_le
  rw [mag_eq_isqrt, le_isqrt_iff (by omega)]

theorem mag_le {p : Phasor} (h : p.InRange) : mag p ≤ 46339 := by
  have bound := h.sumSquares_le
  have above : ¬46340 ≤ mag p := by rw [le_mag_iff h]; omega
  omega

theorem int_sq (x : Int) : x ^ 2 = x * x := by
  rw [Int.pow_succ, Int.pow_succ, Int.pow_zero, Int.one_mul]

/-- Squares as the statement of O24 writes them, against the sum of the squares. -/
theorem sq_le_iff (p : Phasor) (k : Nat) : (k : Int) ^ 2 ≤ p.re ^ 2 + p.im ^ 2 ↔ k * k ≤ p.sumSquares := by
  rw [int_sq, int_sq, int_sq, ← p.coe_sumSquares, ← Int.natCast_mul, Int.ofNat_le]

/-! ## The saturated difference (R96) -/

theorem saturate_of_above {x : Int} (h : 32767 < x) : saturate x = 32767 := by unfold saturate; omega

theorem saturate_of_below {x : Int} (h : x < -32767) : saturate x = -32767 := by unfold saturate; omega

theorem saturate_of_within {x : Int} (low : -32767 ≤ x) (high : x ≤ 32767) : saturate x = x := by
  unfold saturate; omega

theorem difference_inRange (u : Phasor) (downs : List Phasor) : (difference u downs).InRange :=
  ⟨saturate_bounds _, saturate_bounds _⟩

theorem intSum_perm {l reordered : List Int} (h : l.Perm reordered) : reordered.sum = l.sum := by
  induction h with
  | nil => rfl
  | cons x _ ih => rw [List.sum_cons, List.sum_cons, ih]
  | swap x y l => rw [List.sum_cons, List.sum_cons, List.sum_cons, List.sum_cons]; omega
  | trans _ _ first second => rw [second, first]

theorem difference_perm (u : Phasor) {downs reordered : List Phasor} (h : downs.Perm reordered) :
    difference u reordered = difference u downs := by
  simp only [difference, intSum_perm (h.map Phasor.re), intSum_perm (h.map Phasor.im)]

/-- Settles O24: the search by bits keeps its bounds, so the magnitude is pinned by `le_mag_iff`, and the
difference lies in range by its saturation. -/
theorem magnitudeIsFloorRoot : Obligations.MagnitudeIsFloorRoot := by
  unfold Obligations.MagnitudeIsFloorRoot
  refine ⟨?floor, ?differences, by decide⟩
  case floor =>
    intro p reLow reHigh imLow imHigh
    have h : p.InRange := ⟨⟨reLow, reHigh⟩, imLow, imHigh⟩
    have next : ¬mag p + 1 ≤ mag p := by omega
    have floor (k : Nat) : (k : Int) ^ 2 ≤ p.re ^ 2 + p.im ^ 2 ↔ k ≤ mag p := by rw [sq_le_iff, le_mag_iff h]
    rw [← floor, Int.not_le, Int.natCast_add] at next
    exact ⟨(floor _).2 (Nat.le_refl _), next, fun k => (floor k).1, mag_le h⟩
  case differences =>
    intro u downs
    exact ⟨⟨saturate_of_above, saturate_of_below, saturate_of_within⟩,
      ⟨saturate_of_above, saturate_of_below, saturate_of_within⟩,
      mag_le (difference_inRange u downs), fun _ => difference_perm u⟩

/-! ## The cases of R94 -/

/-- The detection state of a phase after the trim of R101, which every case of R94 makes first. -/
def PhaseState.trimmed (len : Nat) (st : PhaseState) : PhaseState := { st with window := trimWindow len st.window }

/-- No downstream slot, every downstream slot measured, or one of them not. -/
theorem downstream_cases (l : List (Option Phasor)) :
    l = [] ∨ (∃ downs, downs ≠ [] ∧ l = downs.map some) ∨ none ∈ l := by
  induction l with
  | nil => exact .inl rfl
  | cons d rest ih =>
    cases d with
    | none => exact .inr (.inr List.mem_cons_self)
    | some d =>
      obtain rfl | ⟨downs, -, rfl⟩ | missing := ih
      · exact .inr (.inl ⟨[d], List.cons_ne_nil d [], rfl⟩)
      · exact .inr (.inl ⟨d :: downs, List.cons_ne_nil d downs, rfl⟩)
      · exact .inr (.inr (List.mem_cons_of_mem _ missing))

section Cases

variable {w : Vector Word 12} {hold : Bool} {e : Epoch} {i : PhaseInputs} {st : PhaseState} {u : Phasor}

theorem evalPhase_unmeasured (hu : i.upstream = none) :
    evalPhase w hold e i st = phaseUnmeasured (st.trimmed (Prof.windowLen w)) := by
  simp [evalPhase, hu, PhaseState.trimmed]

theorem evalPhase_feederEnd (hu : i.upstream = some u) (hd : i.downstream = []) :
    evalPhase w hold e i st = phaseFeederEnd w hold i u (st.trimmed (Prof.windowLen w)) := by
  simp [evalPhase, hu, hd, PhaseState.trimmed]

theorem evalPhase_full {downs : List Phasor} (hu : i.upstream = some u) (hne : downs ≠ [])
    (hd : i.downstream = downs.map some) :
    evalPhase w hold e i st = phaseFull w hold e i u downs (st.trimmed (Prof.windowLen w)) := by
  simp [evalPhase, hu, hd, hne, PhaseState.trimmed, List.filterMap_map, Function.comp_def]

theorem evalPhase_notFormed (hu : i.upstream = some u) (hd : none ∈ i.downstream) :
    evalPhase w hold e i st = phaseNotFormed w hold i u (st.trimmed (Prof.windowLen w)) := by
  have nonempty : i.downstream ≠ [] := List.ne_nil_of_mem hd
  have missing : ¬∀ d ∈ i.downstream, d.isSome = true := fun h => by simpa using h none hd
  simp [evalPhase, hu, nonempty, missing, PhaseState.trimmed]

end Cases

/-! ## The restrained threshold (R97) -/

/-- A first check whose own reason is not `good` has to hold for the list to come to `good`. -/
theorem firstFailure_cons_eq_good {α : Type} {good reason : α} {holds : Bool} {rest : List (Bool × α)}
    (h : reason ≠ good) :
    firstFailure good ((holds, reason) :: rest) = good ↔ holds = true ∧ firstFailure good rest = good := by
  cases holds <;> simp [firstFailure, h]

/-- The ranges of R117 that bound T. -/
theorem pickup_slope_le {w : Vector Word 12} (h : validateProfile w = .good) :
    Prof.pickup w ≤ 4095 ∧ Prof.slope w ≤ 63 := by
  rw [validateProfile, firstFailure_cons_eq_good (by decide), firstFailure_cons_eq_good (by decide)] at h
  obtain ⟨-, ranges, -⟩ := h
  simp only [Bool.and_eq_true, inRange, decide_eq_true_eq] at ranges
  omega

theorem threshold_le {w : Vector Word 12} {allowance umag : Nat} (hw : validateProfile w = .good)
    (ha : allowance ≤ 4095) (hm : umag ≤ 46339) : threshold w allowance umag ≤ 53804 := by
  obtain ⟨pickup, slope⟩ := pickup_slope_le hw
  have product : Prof.slope w * umag ≤ 63 * 46339 := Nat.mul_le_mul slope hm
  unfold threshold
  omega

/-- What an evaluation of a measured phase records: umag always, and dmag and T in the cases that form them. -/
theorem evalPhase_values {w : Vector Word 12} {hold : Bool} {e : Epoch} {i : PhaseInputs} {st : PhaseState} {u : Phasor}
    (hu : i.upstream = some u) :
    let v := (evalPhase w hold e i st).values
    v.umag = some (mag u) ∧
    ((i.downstream = [] ∧ v.dmag = some (mag u) ∧ v.threshold = some (threshold w i.allowance (mag u))) ∨
     (∃ downs, downs ≠ [] ∧ i.downstream = downs.map some ∧ v.dmag = some (mag (difference u downs)) ∧
        v.threshold = some (threshold w i.allowance (mag u))) ∨
     (none ∈ i.downstream ∧ v.dmag = none ∧ v.threshold = none)) := by
  obtain hd | ⟨downs, hne, hd⟩ | hd := downstream_cases i.downstream
  · rw [evalPhase_feederEnd hu hd]; exact ⟨rfl, .inl ⟨hd, rfl, rfl⟩⟩
  · rw [evalPhase_full hu hne hd]; exact ⟨rfl, .inr (.inl ⟨downs, hne, hd, rfl, rfl⟩)⟩
  · rw [evalPhase_notFormed hu hd]; exact ⟨rfl, .inr (.inr ⟨hd, rfl, rfl⟩)⟩

/-- The ranges of the magnitudes and of T, where they are formed. -/
theorem evalPhase_ranges {w : Vector Word 12} {hold : Bool} {e : Epoch} {i : PhaseInputs} {st : PhaseState} {u : Phasor}
    (hu : i.upstream = some u) (hr : u.InRange) :
    let v := (evalPhase w hold e i st).values
    (∀ k, v.umag = some k → k ≤ 46339) ∧ (∀ k, v.dmag = some k → k ≤ 46339) ∧
    (validateProfile w = .good → i.allowance ≤ 4095 → ∀ k, v.threshold = some k → k ≤ 53804) := by
  obtain ⟨umag, ⟨-, dmag, t⟩ | ⟨downs, -, -, dmag, t⟩ | ⟨-, dmag, t⟩⟩ :=
    evalPhase_values (w := w) (hold := hold) (e := e) (st := st) hu <;>
    simp only [umag, dmag, t, Option.some.injEq, reduceCtorEq, forall_eq']
  · exact ⟨mag_le hr, mag_le hr, fun hw ha => threshold_le hw ha (mag_le hr)⟩
  · exact ⟨mag_le hr, mag_le (difference_inRange u downs), fun hw ha => threshold_le hw ha (mag_le hr)⟩
  · exact ⟨mag_le hr, by simp, by simp⟩

/-- Settles O25, by the cases of R94. -/
theorem thresholdRestrains : Obligations.ThresholdRestrains := by
  unfold Obligations.ThresholdRestrains
  intro w hold e i st
  refine ⟨fun hu => by simp [evalPhase_unmeasured hu, phaseUnmeasured], fun u hu => ?_⟩
  have ranges (reLow : -32767 ≤ u.re) (reHigh : u.re ≤ 32767) (imLow : -32767 ≤ u.im) (imHigh : u.im ≤ 32767) :=
    evalPhase_ranges (w := w) (hold := hold) (e := e) (st := st) hu ⟨⟨reLow, reHigh⟩, imLow, imHigh⟩
  obtain ⟨umag, ⟨hd, dmag, t⟩ | ⟨downs, hne, hd, dmag, t⟩ | ⟨hd, dmag, t⟩⟩ :=
    evalPhase_values (w := w) (hold := hold) (e := e) (st := st) hu
  case inl =>
    have formed : i.downstream = [] ∨ ∀ d ∈ i.downstream, d ≠ none := .inl hd
    refine ⟨umag, fun _ => dmag, fun downs h hne => ?_, fun h => absurd formed h, fun h => absurd formed h,
      fun _ => t, ranges⟩
    exact absurd (List.map_eq_nil_iff.1 (h ▸ hd)) hne
  case inr.inl =>
    have formed : i.downstream = [] ∨ ∀ d ∈ i.downstream, d ≠ none := .inr (by simp [hd])
    refine ⟨umag, fun h => ?_, fun same h _ => ?_, fun h => absurd formed h, fun h => absurd formed h, fun _ => t,
      ranges⟩
    · exact absurd (List.map_eq_nil_iff.1 (hd ▸ h)) hne
    · rwa [(List.map_inj_right (fun _ _ => Option.some.inj)).1 (h.symm.trans hd)]
  case inr.inr =>
    refine ⟨umag, fun h => ?_, fun downs h _ => ?_, fun _ => dmag, fun _ => t, fun formed => ?_, ranges⟩
    · exact absurd h (List.ne_nil_of_mem hd)
    · simp [h] at hd
    · exact absurd rfl (formed.resolve_left (List.ne_nil_of_mem hd) none hd)

/-! ## The open count (R103 to R105) -/

theorem openCondition_iff (w : Vector Word 12) (umag : Nat) (others : Option Nat) (vFar vUp : Option Phasor) :
    openCondition w umag others vFar vUp = true ↔
      umag < Prof.openFloor w ∧ (∃ x, others = some x ∧ Prof.loadFloor w ≤ x) ∧
      (∀ v, vFar = some v → mag v < Prof.vCollapse w) ∧ ∀ v, vUp = some v → Prof.vHealthy w ≤ mag v := by
  simp only [openCondition, Bool.and_eq_true, decide_eq_true_eq, and_assoc]
  refine and_congr_right' (and_congr ?load (and_congr ?far ?up))
  case load => cases others <;> simp
  case far => cases vFar <;> simp
  case up => cases vUp <;> simp

/-- In every measured case of R94 the open count is moved by stage 6, and OPEN is judged on the count it leaves. -/
theorem evalPhase_stageSix {w : Vector Word 12} {hold : Bool} {e : Epoch} {i : PhaseInputs} {st : PhaseState}
    {u : Phasor} (hu : i.upstream = some u) :
    (evalPhase w hold e i st).state.openCount = stageSix w hold i (mag u) st.openCount ∧
    (evalPhase w hold e i st).opened = openTest w hold (stageSix w hold i (mag u) st.openCount) := by
  obtain hd | ⟨downs, hne, hd⟩ | hd := downstream_cases i.downstream
  · rw [evalPhase_feederEnd hu hd]; exact ⟨rfl, rfl⟩
  · rw [evalPhase_full hu hne hd]; exact ⟨rfl, rfl⟩
  · rw [evalPhase_notFormed hu hd]; exact ⟨rfl, rfl⟩

@[simp] theorem stageSix_holdoff (w : Vector Word 12) (i : PhaseInputs) (umag count : Nat) :
    stageSix w true i umag count = count := rfl

@[simp] theorem stageSix_counting (w : Vector Word 12) (i : PhaseInputs) (umag count : Nat) :
    stageSix w false i umag count = moveOpenCount (openCondition w umag i.others i.vFar i.vUp) count := rfl

@[simp] theorem openTest_iff (w : Vector Word 12) (hold : Bool) (count : Nat) :
    openTest w hold count = true ↔ hold = false ∧ Prof.openPersist w ≤ count := by
  simp [openTest]

/-- Settles O27: a measured phase's count and decision are those of stage 6, and an unmeasured phase's are untouched. -/
theorem openCountMoves : Obligations.OpenCountMoves := by
  unfold Obligations.OpenCountMoves
  intro w e i st
  refine ⟨?measured, ?unmeasured, ?holdoff, fun _ => rfl, ?bound, ?confirmed⟩
  case measured =>
    intro u hu
    rw [(evalPhase_stageSix hu).1, stageSix_counting, ← openCondition_iff]
    exact ⟨fun holds => if_pos holds, fun fails => if_neg fails⟩
  case unmeasured =>
    intro hu
    rw [evalPhase_unmeasured hu]; rfl
  case holdoff =>
    intro zero
    cases hu : i.upstream with
    | none => rw [evalPhase_unmeasured hu]; exact zero
    | some u => rw [(evalPhase_stageSix hu).1, stageSix_holdoff, zero]
  case bound =>
    intro low
    cases hu : i.upstream with
    | none => rw [evalPhase_unmeasured hu]; exact low
    | some u => rw [(evalPhase_stageSix hu).1, stageSix_counting]; exact moveOpenCount_le _ _
  case confirmed =>
    intro hold
    cases hu : i.upstream with
    | none => simp [evalPhase_unmeasured hu, phaseUnmeasured]
    | some u => simp [(evalPhase_stageSix hu).1, (evalPhase_stageSix hu).2]

end Sys2Proof.Machine
